-- ==== Sys2Proof/Word.lean ====
section
/-! DEFINITION. The fixed widths of the Y90 (00_scope.md R9): bytes, words, physical addresses. -/

namespace Sys2Proof

/-- An 8-bit value: general registers, memory data, I/O data, vectors (R9). -/
abbrev Byte := BitVec 8

/-- A 16-bit value: register pairs, IX, IY, SP, PC, logical and I/O addresses (R9). -/
abbrev Word := BitVec 16

/-- A 28-bit physical memory address (R9, R83); the CPU variant uses its low 16 bits. -/
abbrev Phys := BitVec 28

end Sys2Proof
end

