-- ==== Sys2Proof/Config.lean ====
section
/-! DEFINITION. What an implementation fixes (00_scope.md R10, R12) and the free values: constants without a body, for
every value the spec leaves unspecified (`unspecified(n)` of R15; 93_implementation_defined.md). -/

namespace Sys2Proof

/-- `VARIANT` (R4, R10): the bare core or the core with the MPU modules. -/
inductive Variant where
  | cpu
  | mpu
deriving DecidableEq, Repr

/-- `CCF_MODE` (R10, R225): the H flag after CCF. -/
inductive CcfMode where
  | z80
  | z180
deriving DecidableEq, Repr

/-- `MUL_MODE` (R10, R274): the clocks of MLT; no functional change. -/
inductive MulMode where
  | norm
  | fast
deriving DecidableEq, Repr

/-- `DREQ_MODE` and `WAIT_MODE` (R10, R565): a time-out byte is a flag or a saturating count. -/
inductive TimeoutMode where
  | log
  | acc
deriving DecidableEq, Repr

/-- `INT_PRIORITY_ORDER` (R12, R542): which end of `int_req_bus` has the highest priority. The fixed order of the eight DMA requests
(R572) has the same two values. -/
inductive PriorityOrder where
  | lowIndexHigh
  | highIndexHigh
deriving DecidableEq, Repr

/-- The compile-time parameters (R10) and the parameters the source does not fix (R12). They stand in State as plain data, so
that a statement about every state speaks of every implementation; no step changes them. -/
structure Params where
  variant : Variant
  ccfMode : CcfMode
  mulMode : MulMode
  dreqMode : TimeoutMode
  waitMode : TimeoutMode
  resetI : Byte
  resetR : Byte
  resetSp : Word
  intPriorityOrder : PriorityOrder
  slpWakeLevel : Bool
  /-- The model's own: which end of `dma_req_bus` has the highest priority, which R572 leaves open (log 25). -/
  dmaPriorityOrder : PriorityOrder
deriving DecidableEq, Repr

/-- The parameters of `State.reset`: the MPU variant, every other compile option at the source's default (R10); the open
parameters of R12 and the DMA priority at a named value. DESIGN CHOICE (logs 1, 3, 8, 25); unsafe: they are one implementation's. -/
def Params.standard : Params where
  variant := .mpu
  ccfMode := .z80
  mulMode := .norm
  dreqMode := .log
  waitMode := .log
  resetI := 0
  resetR := 0
  resetSp := 0
  intPriorityOrder := .lowIndexHigh
  slpWakeLevel := false
  dmaPriorityOrder := .lowIndexHigh

/-- What a free value stands for: one name for each value the spec calls unspecified. -/
inductive FreeSlot where
  /-- F bits 5 and 3 after an instruction that writes a flag (UD1). -/
  | u5 | u3
  /-- After DAA: H always (UD3); A and the other flags outside the table (UD2). -/
  | daaA | daaS | daaZ | daaH | daaPv | daaC
  /-- The byte an I/O device answers when the environment's queue says nothing (R90). -/
  | ioRead
  /-- TRAP_WP after LDM (HL),SYS with an inhibited write, and the bytes at offsets 1 to 5 after that write (UD7). -/
  | sysTrapWp | sysByte (offset : Nat)
  /-- TRAP_WP, TRAP_XP and the address latches when both jams meet (UD8). -/
  | jamWp | jamXp | jamLa | jamPa
  /-- Request latches enabled while their input is active (UD10). -/
  | irqEnabled
  /-- Registers after `clearb` or after a fault (UD9, UD11). -/
  | regA | regF | regB | regC | regD | regE | regH | regL
  | altA | altF | altB | altC | altD | altE | altH | altL
  | regIx | regIy
  | rstFatal | rstFault | rstWdt | rb1 | rb0
  | trapLa | trapPa | faultLa | faultPa
  /-- DRQ_TO and WAIT_TO after a reset (R60). -/
  | drqTo | waitTo
  /-- A level of `reset_bus[1]` or `reset_bus[0]` that has stood for exactly ten clocks (R591, C11; log 42). -/
  | resetBus1 | resetBus0
  /-- Bit 1 of the RTI Generator Status while `rti_default` is 0 (R566; log 41). -/
  | rtiDefaultZero
deriving DecidableEq, Repr

/-- A free bit: no proof can see its value. `draw` is the counter `State.fresh`. -/
opaque Config.freeBit (draw : Nat) (slot : FreeSlot) : Bool

/-- A free byte. -/
opaque Config.freeByte (draw : Nat) (slot : FreeSlot) : Byte

/-- A free word. -/
opaque Config.freeWord (draw : Nat) (slot : FreeSlot) : Word

/-- What the 24-bit counter of the RTI generator holds for an interval of `clocks` clocks that does not fit it, `since` clocks after the
edge that drew `draw` (R581; log 40). -/
opaque Config.freeInterval (draw since clocks : Nat) : Fin 16777216

end Sys2Proof
end

