-- ==== Sys2Proof/Syntax.lean ====
section
/-! DEFINITION. The instructions of the Y90: one constructor for each row of spec/opcode_table.json, over the operand fields of
30_encoding.md section 2. No encoding and no meaning stands here. -/

namespace Sys2Proof

/-- The registers of the field `rrr` (R124). Code 110 is no register. -/
inductive Reg8 where
  | b | c | d | e | h | l | a
deriving DecidableEq, Repr

/-- The word registers of the fields `ss` and `dd` (R125). -/
inductive RegSs where
  | bc | de | hl | sp
deriving DecidableEq, Repr

/-- The word registers of the field `tt`, used by PUSH and POP (R125). -/
inductive RegTt where
  | bc | de | hl | af
deriving DecidableEq, Repr

/-- The word registers of the field `xx`, used by ADD IX,xx (R125). -/
inductive RegXx where
  | bc | de | ix | sp
deriving DecidableEq, Repr

/-- The word registers of the field `yy`, used by ADD IY,yy (R125). -/
inductive RegYy where
  | bc | de | iy | sp
deriving DecidableEq, Repr

/-- The index register the prefix bit `y` selects (R123, R126). -/
inductive Idx where
  | ix | iy
deriving DecidableEq, Repr

/-- The conditions of the field `fff` (R330). -/
inductive Cond where
  | nz | z | nc | c | po | pe | p | m
deriving DecidableEq, Repr

/-- The conditions of the two-bit field `cc` of JR (R330). -/
inductive CondJr where
  | nz | z | nc | c
deriving DecidableEq, Repr

/-- The instructions. `n` is an immediate byte, `mn` an immediate word (R129), `d` a displacement byte (R127), `e2` the byte of a
relative jump (R130), `b` a bit number, `v` a restart number (R126). A name that ends in `Hl` has the operand (HL), in `Xd` the
operand (IX+d) or (IY+d), in `Xy` the operand IX or IY. -/
inductive Instr where
  /-- ADD A,r (R223). -/
  | addAR (r : Reg8)
  /-- ADD A,n (R223). -/
  | addAN (n : Byte)
  /-- ADD A,(HL) (R223). -/
  | addAHl
  /-- ADD A,(IX+d)/(IY+d) (R223). -/
  | addAXd (y : Idx) (d : Byte)
  /-- ADC A,r (R222). -/
  | adcAR (r : Reg8)
  /-- ADC A,n (R222). -/
  | adcAN (n : Byte)
  /-- ADC A,(HL) (R222). -/
  | adcAHl
  /-- ADC A,(IX+d)/(IY+d) (R222). -/
  | adcAXd (y : Idx) (d : Byte)
  /-- SUB A,r (R235). -/
  | subAR (r : Reg8)
  /-- SUB A,n (R235). -/
  | subAN (n : Byte)
  /-- SUB A,(HL) (R235). -/
  | subAHl
  /-- SUB A,(IX+d)/(IY+d) (R235). -/
  | subAXd (y : Idx) (d : Byte)
  /-- SBC A,r (R233). -/
  | sbcAR (r : Reg8)
  /-- SBC A,n (R233). -/
  | sbcAN (n : Byte)
  /-- SBC A,(HL) (R233). -/
  | sbcAHl
  /-- SBC A,(IX+d)/(IY+d) (R233). -/
  | sbcAXd (y : Idx) (d : Byte)
  /-- AND A,r (R224). -/
  | andAR (r : Reg8)
  /-- AND A,n (R224). -/
  | andAN (n : Byte)
  /-- AND A,(HL) (R224). -/
  | andAHl
  /-- AND A,(IX+d)/(IY+d) (R224). -/
  | andAXd (y : Idx) (d : Byte)
  /-- XOR A,r (R237). -/
  | xorAR (r : Reg8)
  /-- XOR A,n (R237). -/
  | xorAN (n : Byte)
  /-- XOR A,(HL) (R237). -/
  | xorAHl
  /-- XOR A,(IX+d)/(IY+d) (R237). -/
  | xorAXd (y : Idx) (d : Byte)
  /-- OR A,r (R232). -/
  | orAR (r : Reg8)
  /-- OR A,n (R232). -/
  | orAN (n : Byte)
  /-- OR A,(HL) (R232). -/
  | orAHl
  /-- OR A,(IX+d)/(IY+d) (R232). -/
  | orAXd (y : Idx) (d : Byte)
  /-- CP A,r (R226). -/
  | cpAR (r : Reg8)
  /-- CP A,n (R226). -/
  | cpAN (n : Byte)
  /-- CP A,(HL) (R226). -/
  | cpAHl
  /-- CP A,(IX+d)/(IY+d) (R226). -/
  | cpAXd (y : Idx) (d : Byte)
  /-- CCF (R225). -/
  | ccf
  /-- CPL (R227). -/
  | cpl
  /-- DAA (R228). -/
  | daa
  /-- DEC r (R229). -/
  | decR (r : Reg8)
  /-- DEC (HL) (R229). -/
  | decHl
  /-- DEC (IX+d)/(IY+d) (R229). -/
  | decXd (y : Idx) (d : Byte)
  /-- INC r (R230). -/
  | incR (r : Reg8)
  /-- INC (HL) (R230). -/
  | incHl
  /-- INC (IX+d)/(IY+d) (R230). -/
  | incXd (y : Idx) (d : Byte)
  /-- NEG (R231). -/
  | neg
  /-- SCF (R234). -/
  | scf
  /-- TST r (R236). -/
  | tstR (r : Reg8)
  /-- TST n (R236). -/
  | tstN (n : Byte)
  /-- TST (HL) (R236). -/
  | tstHl
  /-- ADC HL,ss (R270). -/
  | adcHlSs (ss : RegSs)
  /-- ADD HL,ss (R271). -/
  | addHlSs (ss : RegSs)
  /-- ADD IX,xx (R271). -/
  | addIxXx (xx : RegXx)
  /-- ADD IY,yy (R271). -/
  | addIyYy (yy : RegYy)
  /-- DEC dd (R272). -/
  | decDd (dd : RegSs)
  /-- DEC IX/IY (R272). -/
  | decXy (y : Idx)
  /-- INC dd (R273). -/
  | incDd (dd : RegSs)
  /-- INC IX/IY (R273). -/
  | incXy (y : Idx)
  /-- MLT ss (R274). -/
  | mltSs (ss : RegSs)
  /-- SBC HL,ss (R275). -/
  | sbcHlSs (ss : RegSs)
  /-- LD A,(mn) (R171). -/
  | ldAMn (mn : Word)
  /-- LD A,(BC) (R171). -/
  | ldABc
  /-- LD A,(DE) (R171). -/
  | ldADe
  /-- LD A,I (R172). -/
  | ldAI
  /-- LD A,R (R172). -/
  | ldAR
  /-- LD (mn),A (R173). -/
  | ldMnA (mn : Word)
  /-- LD (BC),A (R173). -/
  | ldBcA
  /-- LD (DE),A (R173). -/
  | ldDeA
  /-- LD (HL),n (R174). -/
  | ldHlN (n : Byte)
  /-- LD (IX+d),n/(IY+d),n (R174). -/
  | ldXdN (y : Idx) (d : Byte) (n : Byte)
  /-- LD (HL),r (R175). -/
  | ldHlR (r : Reg8)
  /-- LD (IX+d),r/(IY+d),r (R175). -/
  | ldXdR (y : Idx) (d : Byte) (r : Reg8)
  /-- LD (mn),HL (R176). -/
  | ldMnHl (mn : Word)
  /-- LD (mn),ss (R176). -/
  | ldMnSs (mn : Word) (ss : RegSs)
  /-- LD (mn),IX/IY (R176). -/
  | ldMnXy (mn : Word) (y : Idx)
  /-- LD rd,rs (R177). -/
  | ldRR (rd : Reg8) (rs : Reg8)
  /-- LD r,n (R177). -/
  | ldRN (r : Reg8) (n : Byte)
  /-- LD r,(HL) (R177). -/
  | ldRHl (r : Reg8)
  /-- LD r,(IX+d)/(IY+d) (R177). -/
  | ldRXd (r : Reg8) (y : Idx) (d : Byte)
  /-- LD dd,mn (R178). -/
  | ldDdMn (dd : RegSs) (mn : Word)
  /-- LD IX,mn/IY,mn (R178). -/
  | ldXyMn (y : Idx) (mn : Word)
  /-- LD HL,(mn) (R179). -/
  | ldHlFromMn (mn : Word)
  /-- LD dd,(mn) (R179). -/
  | ldDdFromMn (dd : RegSs) (mn : Word)
  /-- LD IX,(mn)/IY,(mn) (R179). -/
  | ldXyFromMn (y : Idx) (mn : Word)
  /-- LD I,A (R180). -/
  | ldIA
  /-- LD R,A (R180). -/
  | ldRA
  /-- LD SP,HL (R181). -/
  | ldSpHl
  /-- LD SP,IX/IY (R181). -/
  | ldSpXy (y : Idx)
  /-- POP tt (R182). -/
  | popTt (tt : RegTt)
  /-- POP IX/IY (R182). -/
  | popXy (y : Idx)
  /-- PUSH tt (R183). -/
  | pushTt (tt : RegTt)
  /-- PUSH IX/IY (R183). -/
  | pushXy (y : Idx)
  /-- EX (SP),HL (R184). -/
  | exSpHl
  /-- EX (SP),IX/IY (R184). -/
  | exSpXy (y : Idx)
  /-- EX AF,AF' (R185). -/
  | exAfAf
  /-- EX DE,HL (R186). -/
  | exDeHl
  /-- EXX (R187). -/
  | exx
  /-- BIT b, r (R291). -/
  | bitR (b : BitVec 3) (r : Reg8)
  /-- BIT b, (HL) (R291). -/
  | bitHl (b : BitVec 3)
  /-- BIT b, (IX+d)/(IY+d) (R291). -/
  | bitXd (b : BitVec 3) (y : Idx) (d : Byte)
  /-- RES b, r (R292). -/
  | resR (b : BitVec 3) (r : Reg8)
  /-- RES b, (HL) (R292). -/
  | resHl (b : BitVec 3)
  /-- RES b, (IX+d)/(IY+d) (R292). -/
  | resXd (b : BitVec 3) (y : Idx) (d : Byte)
  /-- RL r (R293). -/
  | rlR (r : Reg8)
  /-- RL (HL) (R293). -/
  | rlHl
  /-- RL (IX+d)/(IY+d) (R293). -/
  | rlXd (y : Idx) (d : Byte)
  /-- RLA (R294). -/
  | rla
  /-- RLC r (R295). -/
  | rlcR (r : Reg8)
  /-- RLC (HL) (R295). -/
  | rlcHl
  /-- RLC (IX+d)/(IY+d) (R295). -/
  | rlcXd (y : Idx) (d : Byte)
  /-- RLCA (R296). -/
  | rlca
  /-- RLD (R297). -/
  | rld
  /-- RR r (R298). -/
  | rrR (r : Reg8)
  /-- RR (HL) (R298). -/
  | rrHl
  /-- RR (IX+d)/(IY+d) (R298). -/
  | rrXd (y : Idx) (d : Byte)
  /-- RRA (R299). -/
  | rra
  /-- RRC r (R300). -/
  | rrcR (r : Reg8)
  /-- RRC (HL) (R300). -/
  | rrcHl
  /-- RRC (IX+d)/(IY+d) (R300). -/
  | rrcXd (y : Idx) (d : Byte)
  /-- RRCA (R301). -/
  | rrca
  /-- RRD (R302). -/
  | rrd
  /-- SET b, r (R303). -/
  | setR (b : BitVec 3) (r : Reg8)
  /-- SET b, (HL) (R303). -/
  | setHl (b : BitVec 3)
  /-- SET b, (IX+d)/(IY+d) (R303). -/
  | setXd (b : BitVec 3) (y : Idx) (d : Byte)
  /-- SLA r (R304). -/
  | slaR (r : Reg8)
  /-- SLA (HL) (R304). -/
  | slaHl
  /-- SLA (IX+d)/(IY+d) (R304). -/
  | slaXd (y : Idx) (d : Byte)
  /-- SRA r (R305). -/
  | sraR (r : Reg8)
  /-- SRA (HL) (R305). -/
  | sraHl
  /-- SRA (IX+d)/(IY+d) (R305). -/
  | sraXd (y : Idx) (d : Byte)
  /-- SRL r (R306). -/
  | srlR (r : Reg8)
  /-- SRL (HL) (R306). -/
  | srlHl
  /-- SRL (IX+d)/(IY+d) (R306). -/
  | srlXd (y : Idx) (d : Byte)
  /-- CALL mn (R331). -/
  | callMn (mn : Word)
  /-- CALL cc,mn (R332). -/
  | callCcMn (cc : Cond) (mn : Word)
  /-- DJNZ e (R333). -/
  | djnz (e2 : Byte)
  /-- JP mn (R334). -/
  | jpMn (mn : Word)
  /-- JP (HL) (R334). -/
  | jpHl
  /-- JP (IX)/(IY) (R334). -/
  | jpXy (y : Idx)
  /-- JP cc,mn (R335). -/
  | jpCcMn (cc : Cond) (mn : Word)
  /-- JR e (R336). -/
  | jr (e2 : Byte)
  /-- JR cc,e (R337). -/
  | jrCc (cc : CondJr) (e2 : Byte)
  /-- RET (R338). -/
  | ret
  /-- RET cc (R339). -/
  | retCc (cc : Cond)
  /-- RETI (R340). -/
  | reti
  /-- RETN (R341). -/
  | retn
  /-- RST v (R342). -/
  | rst (v : BitVec 3)
  /-- CPD (R361). -/
  | cpd
  /-- CPDR (R362). -/
  | cpdr
  /-- CPI (R363). -/
  | cpi
  /-- CPIR (R364). -/
  | cpir
  /-- LDD (R365). -/
  | ldd
  /-- LDDR (R366). -/
  | lddr
  /-- LDI (R367). -/
  | ldi
  /-- LDIR (R368). -/
  | ldir
  /-- IN A,(n) (R381). -/
  | inAN (n : Byte)
  /-- IN r,(C) (R382). -/
  | inRC (r : Reg8)
  /-- IN0 r,(n) (R383). -/
  | in0RN (r : Reg8) (n : Byte)
  /-- IND (R384). -/
  | ind
  /-- INDR (R385). -/
  | indr
  /-- INI (R386). -/
  | ini
  /-- INIR (R387). -/
  | inir
  /-- OTDM (R388). -/
  | otdm
  /-- OTDMR (R389). -/
  | otdmr
  /-- OTDR (R390). -/
  | otdr
  /-- OTIM (R391). -/
  | otim
  /-- OTIMR (R392). -/
  | otimr
  /-- OTIR (R393). -/
  | otir
  /-- OUT (n),A (R394). -/
  | outNA (n : Byte)
  /-- OUT (C),r (R395). -/
  | outCR (r : Reg8)
  /-- OUT0 (n),r (R396). -/
  | out0NR (n : Byte) (r : Reg8)
  /-- OUTD (R397). -/
  | outd
  /-- OUTI (R398). -/
  | outi
  /-- TSTIO n (R399). -/
  | tstioN (n : Byte)
  /-- DI (R420). -/
  | di
  /-- EI (R421). -/
  | ei
  /-- HALT (R422). -/
  | halt
  /-- IM 0 (R423). -/
  | im0
  /-- IM 1 (R423). -/
  | im1
  /-- IM 2 (R423). -/
  | im2
  /-- NOP (R424). -/
  | nop
  /-- SLP (R425). -/
  | slp
  /-- LDM (HL),MMU (R441). -/
  | ldmHlMmu
  /-- LDM (HL),MMUH (R441). -/
  | ldmHlMmuh
  /-- LDM MMU,(HL) (R442). -/
  | ldmMmuHl
  /-- LDM MMUH,(HL) (R442). -/
  | ldmMmuhHl
  /-- LDMS MMU,(HL) (R443). -/
  | ldmsMmuHl
  /-- SWAP (R444). -/
  | swap
  /-- WDARM (R445). -/
  | wdarm
  /-- WDRES (R446). -/
  | wdres
  /-- LDM (HL),SYS (R447). -/
  | ldmHlSys
deriving DecidableEq, Repr

end Sys2Proof
end

