-- ==== Sys2Proof/WellFormed.lean ====
section
/-! DEFINITION. Which instructions an implementation has. The operand types of Syntax admit exactly the operands the encodings
admit, so the one thing left to check is the variant (R141, R440). -/

namespace Sys2Proof

/-- The nine instructions that only the MPU variant has (R141, R151). -/
def Instr.mpuOnly (i : Instr) : Bool :=
  i ∈ [.ldmHlMmu, .ldmHlMmuh, .ldmMmuHl, .ldmMmuhHl, .ldmsMmuHl, .swap, .wdarm, .wdres, .ldmHlSys]

/-- `i` is an instruction of the variant `v`: an MPU instruction only in the MPU variant (R141). -/
def Instr.wellFormed (v : Variant) (i : Instr) : Bool :=
  v == .mpu || !i.mpuOnly

end Sys2Proof
end

