-- ==== Sys2Proof/Decode.lean ====
section
/-! DEFINITION. Decoding (30_encoding.md): a total function from the four bytes at the fetch address, and after it the encoder.
An opcode byte is read as its fields x = bits 7:6, y = bits 5:3, z = bits 2:0. -/

namespace Sys2Proof

/-- What the bytes at the fetch address are: an instruction and its length in bytes, or one of the two classes of illegal
encoding, by name (R140). -/
inductive Decoded where
  /-- An instruction of `len` bytes. -/
  | instr (i : Instr) (len : Nat)
  /-- An undefined second byte; the trap of R505. -/
  | illegal2
  /-- An undefined last byte of the indexed bit form with this index register and displacement; the trap of R506. -/
  | illegal3 (y : Idx) (d : Byte)
deriving DecidableEq, Repr

/-- The field `rrr`; code 110 names no register (R124). -/
def Reg8.ofCode : Nat → Option Reg8
  | 0 => some .b
  | 1 => some .c
  | 2 => some .d
  | 3 => some .e
  | 4 => some .h
  | 5 => some .l
  | 7 => some .a
  | _ => none

/-- The fields `ss` and `dd` (R125). -/
def RegSs.ofCode : Nat → RegSs
  | 0 => .bc
  | 1 => .de
  | 2 => .hl
  | _ => .sp

/-- The field `tt` (R125). -/
def RegTt.ofCode : Nat → RegTt
  | 0 => .bc
  | 1 => .de
  | 2 => .hl
  | _ => .af

/-- The field `xx` (R125). -/
def RegXx.ofCode : Nat → RegXx
  | 0 => .bc
  | 1 => .de
  | 2 => .ix
  | _ => .sp

/-- The field `yy` (R125). -/
def RegYy.ofCode : Nat → RegYy
  | 0 => .bc
  | 1 => .de
  | 2 => .iy
  | _ => .sp

/-- The field `fff` (R330). -/
def Cond.ofCode : Nat → Cond
  | 0 => .nz
  | 1 => .z
  | 2 => .nc
  | 3 => .c
  | 4 => .po
  | 5 => .pe
  | 6 => .p
  | _ => .m

/-- The field `cc` of JR (R330). -/
def CondJr.ofCode : Nat → CondJr
  | 0 => .nz
  | 1 => .z
  | 2 => .nc
  | _ => .c

/-- A 16-bit immediate: the first byte is the low one (R129). -/
def imm16 (n m : Byte) : Word := m ++ n

/-- The eight operations on A with a register (R221). -/
def aluR (r : Reg8) : Nat → Instr
  | 0 => .addAR r
  | 1 => .adcAR r
  | 2 => .subAR r
  | 3 => .sbcAR r
  | 4 => .andAR r
  | 5 => .xorAR r
  | 6 => .orAR r
  | _ => .cpAR r

/-- The eight operations on A with an immediate (R221). -/
def aluN (n : Byte) : Nat → Instr
  | 0 => .addAN n
  | 1 => .adcAN n
  | 2 => .subAN n
  | 3 => .sbcAN n
  | 4 => .andAN n
  | 5 => .xorAN n
  | 6 => .orAN n
  | _ => .cpAN n

/-- The eight operations on A with (HL) (R221). -/
def aluHl : Nat → Instr
  | 0 => .addAHl
  | 1 => .adcAHl
  | 2 => .subAHl
  | 3 => .sbcAHl
  | 4 => .andAHl
  | 5 => .xorAHl
  | 6 => .orAHl
  | _ => .cpAHl

/-- The eight operations on A with an indexed operand (R221). -/
def aluXd (x : Idx) (d : Byte) : Nat → Instr
  | 0 => .addAXd x d
  | 1 => .adcAXd x d
  | 2 => .subAXd x d
  | 3 => .sbcAXd x d
  | 4 => .andAXd x d
  | 5 => .xorAXd x d
  | 6 => .orAXd x d
  | _ => .cpAXd x d

/-- The block of the main map with x = 0 (R131). -/
def decodeX0 (y z : Nat) (b1 b2 : Byte) : Decoded :=
  match z with
  | 0 =>
    match y with
    | 0 => .instr .nop 1
    | 1 => .instr .exAfAf 1
    | 2 => .instr (.djnz b1) 2
    | 3 => .instr (.jr b1) 2
    | k + 4 => .instr (.jrCc (CondJr.ofCode k) b1) 2
  | 1 =>
    if y % 2 = 0 then .instr (.ldDdMn (RegSs.ofCode (y / 2)) (imm16 b1 b2)) 3
    else .instr (.addHlSs (RegSs.ofCode (y / 2))) 1
  | 2 =>
    match y with
    | 0 => .instr .ldBcA 1
    | 1 => .instr .ldABc 1
    | 2 => .instr .ldDeA 1
    | 3 => .instr .ldADe 1
    | 4 => .instr (.ldMnHl (imm16 b1 b2)) 3
    | 5 => .instr (.ldHlFromMn (imm16 b1 b2)) 3
    | 6 => .instr (.ldMnA (imm16 b1 b2)) 3
    | _ => .instr (.ldAMn (imm16 b1 b2)) 3
  | 3 =>
    if y % 2 = 0 then .instr (.incDd (RegSs.ofCode (y / 2))) 1
    else .instr (.decDd (RegSs.ofCode (y / 2))) 1
  | 4 =>
    match Reg8.ofCode y with
    | some r => .instr (.incR r) 1
    | none => .instr .incHl 1
  | 5 =>
    match Reg8.ofCode y with
    | some r => .instr (.decR r) 1
    | none => .instr .decHl 1
  | 6 =>
    match Reg8.ofCode y with
    | some r => .instr (.ldRN r b1) 2
    | none => .instr (.ldHlN b1) 2
  | _ =>
    match y with
    | 0 => .instr .rlca 1
    | 1 => .instr .rrca 1
    | 2 => .instr .rla 1
    | 3 => .instr .rra 1
    | 4 => .instr .daa 1
    | 5 => .instr .cpl 1
    | 6 => .instr .scf 1
    | _ => .instr .ccf 1

/-- The block with x = 1: LD rd,rs and its (HL) forms, with HALT in the place of LD (HL),(HL) (R131, R124). -/
def decodeX1 (y z : Nat) : Decoded :=
  match Reg8.ofCode y, Reg8.ofCode z with
  | some rd, some rs => .instr (.ldRR rd rs) 1
  | some rd, none => .instr (.ldRHl rd) 1
  | none, some rs => .instr (.ldHlR rs) 1
  | none, none => .instr .halt 1

/-- The block with x = 2: the eight operations on A (R131, R221). -/
def decodeX2 (y z : Nat) : Decoded :=
  match Reg8.ofCode z with
  | some r => .instr (aluR r y) 1
  | none => .instr (aluHl y) 1

/-- The block with x = 3 but for the four prefix bytes (R131). -/
def decodeX3 (y z : Nat) (b1 b2 : Byte) : Decoded :=
  match z with
  | 0 => .instr (.retCc (Cond.ofCode y)) 1
  | 1 =>
    if y % 2 = 0 then .instr (.popTt (RegTt.ofCode (y / 2))) 1
    else
      match y / 2 with
      | 0 => .instr .ret 1
      | 1 => .instr .exx 1
      | 2 => .instr .jpHl 1
      | _ => .instr .ldSpHl 1
  | 2 => .instr (.jpCcMn (Cond.ofCode y) (imm16 b1 b2)) 3
  | 3 =>
    match y with
    | 0 => .instr (.jpMn (imm16 b1 b2)) 3
    | 2 => .instr (.outNA b1) 2
    | 3 => .instr (.inAN b1) 2
    | 4 => .instr .exSpHl 1
    | 5 => .instr .exDeHl 1
    | 6 => .instr .di 1
    | _ => .instr .ei 1
  | 4 => .instr (.callCcMn (Cond.ofCode y) (imm16 b1 b2)) 3
  | 5 =>
    if y % 2 = 0 then .instr (.pushTt (RegTt.ofCode (y / 2))) 1
    else .instr (.callMn (imm16 b1 b2)) 3
  | 6 => .instr (aluN b1 y) 2
  | _ => .instr (.rst (BitVec.ofNat 3 y)) 1

/-- The main map for an opcode that is no prefix (R131). -/
def decodeMain (op : Nat) (b1 b2 : Byte) : Decoded :=
  match op / 64 with
  | 0 => decodeX0 (op / 8 % 8) (op % 8) b1 b2
  | 1 => decodeX1 (op / 8 % 8) (op % 8)
  | 2 => decodeX2 (op / 8 % 8) (op % 8)
  | _ => decodeX3 (op / 8 % 8) (op % 8) b1 b2

/-- The rotates and shifts of the CB map on a register; code 110 is undefined (R132). -/
def rotR (r : Reg8) : Nat → Option Instr
  | 0 => some (.rlcR r)
  | 1 => some (.rrcR r)
  | 2 => some (.rlR r)
  | 3 => some (.rrR r)
  | 4 => some (.slaR r)
  | 5 => some (.sraR r)
  | 7 => some (.srlR r)
  | _ => none

/-- The rotates and shifts on (HL) (R132). -/
def rotHl : Nat → Option Instr
  | 0 => some .rlcHl
  | 1 => some .rrcHl
  | 2 => some .rlHl
  | 3 => some .rrHl
  | 4 => some .slaHl
  | 5 => some .sraHl
  | 7 => some .srlHl
  | _ => none

/-- The rotates and shifts on an indexed operand (R132). -/
def rotXd (x : Idx) (d : Byte) : Nat → Option Instr
  | 0 => some (.rlcXd x d)
  | 1 => some (.rrcXd x d)
  | 2 => some (.rlXd x d)
  | 3 => some (.rrXd x d)
  | 4 => some (.slaXd x d)
  | 5 => some (.sraXd x d)
  | 7 => some (.srlXd x d)
  | _ => none

/-- The CB map: the second byte after 0xCB (R132). -/
def decodeCb (op : Nat) : Decoded :=
  let y := op / 8 % 8
  match Reg8.ofCode (op % 8) with
  | some r =>
    match op / 64 with
    | 0 =>
      match rotR r y with
      | some i => .instr i 2
      | none => .illegal2
    | 1 => .instr (.bitR (BitVec.ofNat 3 y) r) 2
    | 2 => .instr (.resR (BitVec.ofNat 3 y) r) 2
    | _ => .instr (.setR (BitVec.ofNat 3 y) r) 2
  | none =>
    match op / 64 with
    | 0 =>
      match rotHl y with
      | some i => .instr i 2
      | none => .illegal2
    | 1 => .instr (.bitHl (BitVec.ofNat 3 y)) 2
    | 2 => .instr (.resHl (BitVec.ofNat 3 y)) 2
    | _ => .instr (.setHl (BitVec.ofNat 3 y)) 2

/-- The CB map in the indexed form: the fourth byte. Only `xxxxx110` but 0x36 is defined (R132, R140). -/
def decodeXCb (x : Idx) (d : Byte) (op : Nat) : Decoded :=
  let y := op / 8 % 8
  match op % 8 with
  | 6 =>
    match op / 64 with
    | 0 =>
      match rotXd x d y with
      | some i => .instr i 4
      | none => .illegal3 x d
    | 1 => .instr (.bitXd (BitVec.ofNat 3 y) x d) 4
    | 2 => .instr (.resXd (BitVec.ofNat 3 y) x d) 4
    | _ => .instr (.setXd (BitVec.ofNat 3 y) x d) 4
  | _ => .illegal3 x d

/-- The block of the ED map with x = 0: IN0, OUT0, TST (R133). -/
def decodeEdX0 (y z : Nat) (b2 : Byte) : Decoded :=
  match z, Reg8.ofCode y with
  | 0, some r => .instr (.in0RN r b2) 3
  | 1, some r => .instr (.out0NR b2 r) 3
  | 4, some r => .instr (.tstR r) 2
  | 4, none => .instr .tstHl 2
  | _, _ => .illegal2

/-- The block of the ED map with x = 1 (R133). -/
def decodeEdX1 (v : Variant) (y z : Nat) (b2 b3 : Byte) : Decoded :=
  match z with
  | 0 =>
    match Reg8.ofCode y with
    | some r => .instr (.inRC r) 2
    | none => .illegal2
  | 1 =>
    match Reg8.ofCode y with
    | some r => .instr (.outCR r) 2
    | none => .illegal2
  | 2 =>
    if y % 2 = 0 then .instr (.sbcHlSs (RegSs.ofCode (y / 2))) 2
    else .instr (.adcHlSs (RegSs.ofCode (y / 2))) 2
  | 3 =>
    if y % 2 = 0 then .instr (.ldMnSs (imm16 b2 b3) (RegSs.ofCode (y / 2))) 4
    else .instr (.ldDdFromMn (RegSs.ofCode (y / 2)) (imm16 b2 b3)) 4
  | 4 =>
    if y % 2 = 1 then .instr (.mltSs (RegSs.ofCode (y / 2))) 2
    else
      match y with
      | 0 => .instr .neg 2
      | 4 => .instr (.tstN b2) 3
      | 6 => .instr (.tstioN b2) 3
      | _ => .illegal2
  | 5 =>
    match y with
    | 0 => .instr .retn 2
    | 1 => .instr .reti 2
    | _ => .illegal2
  | 6 =>
    match y, v with
    | 0, _ => .instr .im0 2
    | 2, _ => .instr .im1 2
    | 3, _ => .instr .im2 2
    | 5, .mpu => .instr .wdarm 2
    | 6, _ => .instr .slp 2
    | 7, .mpu => .instr .wdres 2
    | _, _ => .illegal2
  | _ =>
    match y, v with
    | 0, _ => .instr .ldIA 2
    | 1, _ => .instr .ldRA 2
    | 2, _ => .instr .ldAI 2
    | 3, _ => .instr .ldAR 2
    | 4, _ => .instr .rrd 2
    | 5, _ => .instr .rld 2
    | 7, .mpu => .instr .swap 2
    | _, _ => .illegal2

/-- The block of the ED map with x = 2: the block instructions and LDM (R133). -/
def decodeEdX2 (v : Variant) (y z : Nat) : Decoded :=
  match y, z, v with
  | 0, 0, .mpu => .instr .ldmMmuHl 2
  | 0, 2, .mpu => .instr .ldmHlMmu 2
  | 0, 3, _ => .instr .otim 2
  | 1, 0, .mpu => .instr .ldmsMmuHl 2
  | 1, 3, _ => .instr .otdm 2
  | 2, 0, .mpu => .instr .ldmMmuhHl 2
  | 2, 2, .mpu => .instr .ldmHlMmuh 2
  | 2, 3, _ => .instr .otimr 2
  | 3, 2, .mpu => .instr .ldmHlSys 2
  | 3, 3, _ => .instr .otdmr 2
  | 4, 0, _ => .instr .ldi 2
  | 4, 1, _ => .instr .cpi 2
  | 4, 2, _ => .instr .ini 2
  | 4, 3, _ => .instr .outi 2
  | 5, 0, _ => .instr .ldd 2
  | 5, 1, _ => .instr .cpd 2
  | 5, 2, _ => .instr .ind 2
  | 5, 3, _ => .instr .outd 2
  | 6, 0, _ => .instr .ldir 2
  | 6, 1, _ => .instr .cpir 2
  | 6, 2, _ => .instr .inir 2
  | 6, 3, _ => .instr .otir 2
  | 7, 0, _ => .instr .lddr 2
  | 7, 1, _ => .instr .cpdr 2
  | 7, 2, _ => .instr .indr 2
  | 7, 3, _ => .instr .otdr 2
  | _, _, _ => .illegal2

/-- The ED map: the second byte after 0xED. The nine MPU instructions are undefined in the CPU variant (R133, R141). -/
def decodeEd (v : Variant) (op : Nat) (b2 b3 : Byte) : Decoded :=
  match op / 64 with
  | 0 => decodeEdX0 (op / 8 % 8) (op % 8) b2
  | 1 => decodeEdX1 v (op / 8 % 8) (op % 8) b2 b3
  | 2 => decodeEdX2 v (op / 8 % 8) (op % 8)
  | _ => .illegal2

/-- ADD IX,xx or ADD IY,yy (R271). -/
def addXy (x : Idx) (code : Nat) : Instr :=
  match x with
  | .ix => .addIxXx (RegXx.ofCode code)
  | .iy => .addIyYy (RegYy.ofCode code)

/-- The blocks x = 0 and x = 3 of the DD and FD maps (R134). -/
def decodeXyMap (x : Idx) (op : Nat) (b2 b3 : Byte) : Decoded :=
  match op with
  | 0x09 => .instr (addXy x 0) 2
  | 0x19 => .instr (addXy x 1) 2
  | 0x29 => .instr (addXy x 2) 2
  | 0x39 => .instr (addXy x 3) 2
  | 0x21 => .instr (.ldXyMn x (imm16 b2 b3)) 4
  | 0x22 => .instr (.ldMnXy (imm16 b2 b3) x) 4
  | 0x23 => .instr (.incXy x) 2
  | 0x2A => .instr (.ldXyFromMn x (imm16 b2 b3)) 4
  | 0x2B => .instr (.decXy x) 2
  | 0x34 => .instr (.incXd x b2) 3
  | 0x35 => .instr (.decXd x b2) 3
  | 0x36 => .instr (.ldXdN x b2 b3) 4
  | 0xCB => decodeXCb x b2 b3.toNat
  | 0xE1 => .instr (.popXy x) 2
  | 0xE3 => .instr (.exSpXy x) 2
  | 0xE5 => .instr (.pushXy x) 2
  | 0xE9 => .instr (.jpXy x) 2
  | 0xF9 => .instr (.ldSpXy x) 2
  | _ => .illegal2

/-- The DD and FD maps: the second byte after `11y11101` (R134). -/
def decodeXy (x : Idx) (op : Nat) (b2 b3 : Byte) : Decoded :=
  match op / 64 with
  | 1 =>
    match Reg8.ofCode (op / 8 % 8), Reg8.ofCode (op % 8) with
    | some r, none => .instr (.ldRXd r x b2) 3
    | none, some r => .instr (.ldXdR x b2 r) 3
    | _, _ => .illegal2
  | 2 =>
    match Reg8.ofCode (op % 8) with
    | some _ => .illegal2
    | none => .instr (aluXd x b2 (op / 8 % 8)) 3
  | _ => decodeXyMap x op b2 b3

/-- The decoder: the instruction, or the class of illegal encoding, that starts with these four bytes in the variant `v`. Bytes past
the instruction's length are not looked at (R121, R143). -/
def decode (v : Variant) (b0 b1 b2 b3 : Byte) : Decoded :=
  match b0.toNat with
  | 0xCB => decodeCb b1.toNat
  | 0xED => decodeEd v b1.toNat b2 b3
  | 0xDD => decodeXy .ix b1.toNat b2 b3
  | 0xFD => decodeXy .iy b1.toNat b2 b3
  | op => decodeMain op b1 b2

/-- Byte `k` of an instruction of `nbytes` bytes as spec/opcode_table.json numbers its bits: the first byte is the most significant
one (ADC A,n is 0xCEnn there; log 26); past the end, 0. -/
def tableByte (nbytes w k : Nat) : Byte :=
  if k < nbytes then BitVec.ofNat 8 (w / 256 ^ (nbytes - 1 - k)) else 0

/-- The instruction the decoder reads from an instruction whose bits are `w`, in the numbering of spec/opcode_table.json; the
variant is the MPU, which has every row. -/
def decodeTableWord (nbits w : Nat) : Option Instr :=
  let byteAt := tableByte (nbits / 8) w
  match decode .mpu (byteAt 0) (byteAt 1) (byteAt 2) (byteAt 3) with
  | .instr i _ => some i
  | .illegal2 => none
  | .illegal3 _ _ => none

/-- The code of `rrr` (R124). -/
def Reg8.code : Reg8 → BitVec 3
  | .b => 0b000
  | .c => 0b001
  | .d => 0b010
  | .e => 0b011
  | .h => 0b100
  | .l => 0b101
  | .a => 0b111

/-- The code of `ss` and `dd` (R125). -/
def RegSs.code : RegSs → BitVec 2
  | .bc => 0b00
  | .de => 0b01
  | .hl => 0b10
  | .sp => 0b11

/-- The code of `tt` (R125). -/
def RegTt.code : RegTt → BitVec 2
  | .bc => 0b00
  | .de => 0b01
  | .hl => 0b10
  | .af => 0b11

/-- The code of `xx` (R125). -/
def RegXx.code : RegXx → BitVec 2
  | .bc => 0b00
  | .de => 0b01
  | .ix => 0b10
  | .sp => 0b11

/-- The code of `yy` (R125). -/
def RegYy.code : RegYy → BitVec 2
  | .bc => 0b00
  | .de => 0b01
  | .iy => 0b10
  | .sp => 0b11

/-- The code of `fff` (R330). -/
def Cond.code : Cond → BitVec 3
  | .nz => 0b000
  | .z => 0b001
  | .nc => 0b010
  | .c => 0b011
  | .po => 0b100
  | .pe => 0b101
  | .p => 0b110
  | .m => 0b111

/-- The code of `cc` of JR (R330). -/
def CondJr.code : CondJr → BitVec 2
  | .nz => 0b00
  | .z => 0b01
  | .nc => 0b10
  | .c => 0b11

/-- The prefix byte `11y11101` (R123). -/
def Idx.byte : Idx → Byte
  | .ix => 0b11011101
  | .iy => 0b11111101

/-- The low byte of a 16-bit immediate, which comes first (R129). -/
def immLow (mn : Word) : Byte := mn.extractLsb' 0 8

/-- The high byte of a 16-bit immediate. -/
def immHigh (mn : Word) : Byte := mn.extractLsb' 8 8

/-- The encoder: the bytes of an instruction, in address order, from the Encoding column of the instruction rules. -/
def encode : Instr → List Byte
  | .addAR r => [0b10000#5 ++ r.code]
  | .addAN n => [0b11000110, n]
  | .addAHl => [0b10000110]
  | .addAXd y d => [y.byte, 0b10000110, d]
  | .adcAR r => [0b10001#5 ++ r.code]
  | .adcAN n => [0b11001110, n]
  | .adcAHl => [0b10001110]
  | .adcAXd y d => [y.byte, 0b10001110, d]
  | .subAR r => [0b10010#5 ++ r.code]
  | .subAN n => [0b11010110, n]
  | .subAHl => [0b10010110]
  | .subAXd y d => [y.byte, 0b10010110, d]
  | .sbcAR r => [0b10011#5 ++ r.code]
  | .sbcAN n => [0b11011110, n]
  | .sbcAHl => [0b10011110]
  | .sbcAXd y d => [y.byte, 0b10011110, d]
  | .andAR r => [0b10100#5 ++ r.code]
  | .andAN n => [0b11100110, n]
  | .andAHl => [0b10100110]
  | .andAXd y d => [y.byte, 0b10100110, d]
  | .xorAR r => [0b10101#5 ++ r.code]
  | .xorAN n => [0b11101110, n]
  | .xorAHl => [0b10101110]
  | .xorAXd y d => [y.byte, 0b10101110, d]
  | .orAR r => [0b10110#5 ++ r.code]
  | .orAN n => [0b11110110, n]
  | .orAHl => [0b10110110]
  | .orAXd y d => [y.byte, 0b10110110, d]
  | .cpAR r => [0b10111#5 ++ r.code]
  | .cpAN n => [0b11111110, n]
  | .cpAHl => [0b10111110]
  | .cpAXd y d => [y.byte, 0b10111110, d]
  | .ccf => [0b00111111]
  | .cpl => [0b00101111]
  | .daa => [0b00100111]
  | .decR r => [0b00#2 ++ r.code ++ 0b101#3]
  | .decHl => [0b00110101]
  | .decXd y d => [y.byte, 0b00110101, d]
  | .incR r => [0b00#2 ++ r.code ++ 0b100#3]
  | .incHl => [0b00110100]
  | .incXd y d => [y.byte, 0b00110100, d]
  | .neg => [0xED, 0b01000100]
  | .scf => [0b00110111]
  | .tstR r => [0xED, 0b00#2 ++ r.code ++ 0b100#3]
  | .tstN n => [0xED, 0b01100100, n]
  | .tstHl => [0xED, 0b00110100]
  | .adcHlSs ss => [0xED, 0b01#2 ++ ss.code ++ 0b1010#4]
  | .addHlSs ss => [0b00#2 ++ ss.code ++ 0b1001#4]
  | .addIxXx xx => [0xDD, 0b00#2 ++ xx.code ++ 0b1001#4]
  | .addIyYy yy => [0xFD, 0b00#2 ++ yy.code ++ 0b1001#4]
  | .decDd dd => [0b00#2 ++ dd.code ++ 0b1011#4]
  | .decXy y => [y.byte, 0b00101011]
  | .incDd dd => [0b00#2 ++ dd.code ++ 0b0011#4]
  | .incXy y => [y.byte, 0b00100011]
  | .mltSs ss => [0xED, 0b01#2 ++ ss.code ++ 0b1100#4]
  | .sbcHlSs ss => [0xED, 0b01#2 ++ ss.code ++ 0b0010#4]
  | .ldAMn mn => [0b00111010, immLow mn, immHigh mn]
  | .ldABc => [0b00001010]
  | .ldADe => [0b00011010]
  | .ldAI => [0xED, 0b01010111]
  | .ldAR => [0xED, 0b01011111]
  | .ldMnA mn => [0b00110010, immLow mn, immHigh mn]
  | .ldBcA => [0b00000010]
  | .ldDeA => [0b00010010]
  | .ldHlN n => [0b00110110, n]
  | .ldXdN y d n => [y.byte, 0b00110110, d, n]
  | .ldHlR r => [0b01110#5 ++ r.code]
  | .ldXdR y d r => [y.byte, 0b01110#5 ++ r.code, d]
  | .ldMnHl mn => [0b00100010, immLow mn, immHigh mn]
  | .ldMnSs mn ss => [0xED, 0b01#2 ++ ss.code ++ 0b0011#4, immLow mn, immHigh mn]
  | .ldMnXy mn y => [y.byte, 0b00100010, immLow mn, immHigh mn]
  | .ldRR rd rs => [0b01#2 ++ rd.code ++ rs.code]
  | .ldRN r n => [0b00#2 ++ r.code ++ 0b110#3, n]
  | .ldRHl r => [0b01#2 ++ r.code ++ 0b110#3]
  | .ldRXd r y d => [y.byte, 0b01#2 ++ r.code ++ 0b110#3, d]
  | .ldDdMn dd mn => [0b00#2 ++ dd.code ++ 0b0001#4, immLow mn, immHigh mn]
  | .ldXyMn y mn => [y.byte, 0b00100001, immLow mn, immHigh mn]
  | .ldHlFromMn mn => [0b00101010, immLow mn, immHigh mn]
  | .ldDdFromMn dd mn => [0xED, 0b01#2 ++ dd.code ++ 0b1011#4, immLow mn, immHigh mn]
  | .ldXyFromMn y mn => [y.byte, 0b00101010, immLow mn, immHigh mn]
  | .ldIA => [0xED, 0b01000111]
  | .ldRA => [0xED, 0b01001111]
  | .ldSpHl => [0b11111001]
  | .ldSpXy y => [y.byte, 0b11111001]
  | .popTt tt => [0b11#2 ++ tt.code ++ 0b0001#4]
  | .popXy y => [y.byte, 0b11100001]
  | .pushTt tt => [0b11#2 ++ tt.code ++ 0b0101#4]
  | .pushXy y => [y.byte, 0b11100101]
  | .exSpHl => [0b11100011]
  | .exSpXy y => [y.byte, 0b11100011]
  | .exAfAf => [0b00001000]
  | .exDeHl => [0b11101011]
  | .exx => [0b11011001]
  | .bitR b r => [0xCB, 0b01#2 ++ b ++ r.code]
  | .bitHl b => [0xCB, 0b01#2 ++ b ++ 0b110#3]
  | .bitXd b y d => [y.byte, 0xCB, d, 0b01#2 ++ b ++ 0b110#3]
  | .resR b r => [0xCB, 0b10#2 ++ b ++ r.code]
  | .resHl b => [0xCB, 0b10#2 ++ b ++ 0b110#3]
  | .resXd b y d => [y.byte, 0xCB, d, 0b10#2 ++ b ++ 0b110#3]
  | .rlR r => [0xCB, 0b00010#5 ++ r.code]
  | .rlHl => [0xCB, 0b00010110]
  | .rlXd y d => [y.byte, 0xCB, d, 0b00010110]
  | .rla => [0b00010111]
  | .rlcR r => [0xCB, 0b00000#5 ++ r.code]
  | .rlcHl => [0xCB, 0b00000110]
  | .rlcXd y d => [y.byte, 0xCB, d, 0b00000110]
  | .rlca => [0b00000111]
  | .rld => [0xED, 0b01101111]
  | .rrR r => [0xCB, 0b00011#5 ++ r.code]
  | .rrHl => [0xCB, 0b00011110]
  | .rrXd y d => [y.byte, 0xCB, d, 0b00011110]
  | .rra => [0b00011111]
  | .rrcR r => [0xCB, 0b00001#5 ++ r.code]
  | .rrcHl => [0xCB, 0b00001110]
  | .rrcXd y d => [y.byte, 0xCB, d, 0b00001110]
  | .rrca => [0b00001111]
  | .rrd => [0xED, 0b01100111]
  | .setR b r => [0xCB, 0b11#2 ++ b ++ r.code]
  | .setHl b => [0xCB, 0b11#2 ++ b ++ 0b110#3]
  | .setXd b y d => [y.byte, 0xCB, d, 0b11#2 ++ b ++ 0b110#3]
  | .slaR r => [0xCB, 0b00100#5 ++ r.code]
  | .slaHl => [0xCB, 0b00100110]
  | .slaXd y d => [y.byte, 0xCB, d, 0b00100110]
  | .sraR r => [0xCB, 0b00101#5 ++ r.code]
  | .sraHl => [0xCB, 0b00101110]
  | .sraXd y d => [y.byte, 0xCB, d, 0b00101110]
  | .srlR r => [0xCB, 0b00111#5 ++ r.code]
  | .srlHl => [0xCB, 0b00111110]
  | .srlXd y d => [y.byte, 0xCB, d, 0b00111110]
  | .callMn mn => [0b11001101, immLow mn, immHigh mn]
  | .callCcMn cc mn => [0b11#2 ++ cc.code ++ 0b100#3, immLow mn, immHigh mn]
  | .djnz e2 => [0b00010000, e2]
  | .jpMn mn => [0b11000011, immLow mn, immHigh mn]
  | .jpHl => [0b11101001]
  | .jpXy y => [y.byte, 0b11101001]
  | .jpCcMn cc mn => [0b11#2 ++ cc.code ++ 0b010#3, immLow mn, immHigh mn]
  | .jr e2 => [0b00011000, e2]
  | .jrCc cc e2 => [0b001#3 ++ cc.code ++ 0b000#3, e2]
  | .ret => [0b11001001]
  | .retCc cc => [0b11#2 ++ cc.code ++ 0b000#3]
  | .reti => [0xED, 0b01001101]
  | .retn => [0xED, 0b01000101]
  | .rst v => [0b11#2 ++ v ++ 0b111#3]
  | .cpd => [0xED, 0b10101001]
  | .cpdr => [0xED, 0b10111001]
  | .cpi => [0xED, 0b10100001]
  | .cpir => [0xED, 0b10110001]
  | .ldd => [0xED, 0b10101000]
  | .lddr => [0xED, 0b10111000]
  | .ldi => [0xED, 0b10100000]
  | .ldir => [0xED, 0b10110000]
  | .inAN n => [0b11011011, n]
  | .inRC r => [0xED, 0b01#2 ++ r.code ++ 0b000#3]
  | .in0RN r n => [0xED, 0b00#2 ++ r.code ++ 0b000#3, n]
  | .ind => [0xED, 0b10101010]
  | .indr => [0xED, 0b10111010]
  | .ini => [0xED, 0b10100010]
  | .inir => [0xED, 0b10110010]
  | .otdm => [0xED, 0b10001011]
  | .otdmr => [0xED, 0b10011011]
  | .otdr => [0xED, 0b10111011]
  | .otim => [0xED, 0b10000011]
  | .otimr => [0xED, 0b10010011]
  | .otir => [0xED, 0b10110011]
  | .outNA n => [0b11010011, n]
  | .outCR r => [0xED, 0b01#2 ++ r.code ++ 0b001#3]
  | .out0NR n r => [0xED, 0b00#2 ++ r.code ++ 0b001#3, n]
  | .outd => [0xED, 0b10101011]
  | .outi => [0xED, 0b10100011]
  | .tstioN n => [0xED, 0b01110100, n]
  | .di => [0b11110011]
  | .ei => [0b11111011]
  | .halt => [0b01110110]
  | .im0 => [0xED, 0b01000110]
  | .im1 => [0xED, 0b01010110]
  | .im2 => [0xED, 0b01011110]
  | .nop => [0b00000000]
  | .slp => [0xED, 0b01110110]
  | .ldmHlMmu => [0xED, 0b10000010]
  | .ldmHlMmuh => [0xED, 0b10010010]
  | .ldmMmuHl => [0xED, 0b10000000]
  | .ldmMmuhHl => [0xED, 0b10010000]
  | .ldmsMmuHl => [0xED, 0b10001000]
  | .swap => [0xED, 0b01111111]
  | .wdarm => [0xED, 0b01101110]
  | .wdres => [0xED, 0b01111110]
  | .ldmHlSys => [0xED, 0b10011010]

end Sys2Proof
end

