-- ==== Sys2Proof/Machine/State.lean ====
section
/-! DEFINITION. The state of the Y90 as plain data (10_state.md), what the environment can do (R58), the reasons a step can
stop, and the state after reset (R60). What operates on it stands in Ops, Operands, Flags and the family files. -/

namespace Sys2Proof.Machine

open Sys2Proof

/-- The F register, one Bool for each bit (R39): bit 7 S, 6 Z, 5 U5, 4 H, 3 U3, 2 P/V, 1 N, 0 C. `Flags.toByte` gives the byte. -/
structure Flags where
  s : Bool
  z : Bool
  u5 : Bool
  h : Bool
  u3 : Bool
  pv : Bool
  n : Bool
  c : Bool
deriving DecidableEq, Repr

/-- One bank of main registers (R30, R33). -/
structure Bank where
  a : Byte
  f : Flags
  b : Byte
  c : Byte
  d : Byte
  e : Byte
  h : Byte
  l : Byte
deriving DecidableEq, Repr

/-- The interrupt mode IM (R43). -/
inductive IntMode where
  | im0
  | im1
  | im2
deriving DecidableEq, Repr

/-- RUNSTATE (R44). -/
inductive RunState where
  | run
  | halt
  | sleep
deriving DecidableEq, Repr

/-- The active translation registers and their buffer (R50, R51). -/
structure Mmu where
  active : Vector Word 16
  buffer : Vector Word 16
deriving DecidableEq, Repr

/-- The interrupt controller: one request latch and one Interrupt-Under-Service bit for each input (R52). -/
structure IrqController where
  latch : BitVec 16
  ius : BitVec 16
deriving DecidableEq, Repr

/-- The DMA request controller and limiter (R53): the DMA-Under-Service bits, the clocks `dma_ack` has been active, the clocks for which
no request reaches the core, and whether the limiter has just given the bus back to the core, which then keeps it for one boundary
(R571; log 39). -/
structure DmaController where
  dus : BitVec 8
  active : Nat
  idle : Nat
  coreTurn : Bool
deriving DecidableEq, Repr

/-- The Watch-Dog Timer (R54): WDT_ENABLED, its counter in clocks, the limit WDRES captured, and the clocks left of the arm window
(WDT_ARMED is `arm ≠ 0`). -/
structure WatchDog where
  enabled : Bool
  count : Nat
  limit : Byte
  arm : Nat
deriving DecidableEq, Repr

/-- The digital filter of one `reset_bus` input (R591): the last level that passed it, and for how many clocks the pin has stood at the
other one. -/
structure LevelFilter where
  level : Bool
  held : Nat
deriving DecidableEq, Repr

/-- The filters of `reset_bus[1]` and `reset_bus[0]` (R591). -/
structure ResetFilter where
  line1 : LevelFilter
  line0 : LevelFilter
deriving DecidableEq, Repr

/-- The ±1 clock by which the digital phase-locked loop changes the last interval of a frame (R581). -/
inductive PhaseAdjust where
  | shorter
  | exact
  | longer
deriving DecidableEq, Repr

/-- The Real-Time Interrupt generator (R56, R580, R581). A frame is a sequence of `pulses` intervals, each ended by a pulse, meant to last
one period of `ref_clock`. -/
structure RtiGen where
  /-- The 24-bit down counter: clocks to the next pulse, 0 while stopped. -/
  count : Nat
  /-- The level of `ref_clock` behind the digital filter. -/
  filtered : Bool
  /-- For how many clocks the pin has stood at the other level. -/
  held : Nat
  /-- Rising edges recognised in succession, up to 2. -/
  edges : Nat
  /-- Clocks since the last recognised edge. -/
  since : Nat
  /-- The last measured period of `ref_clock`, in clocks. -/
  period : Nat
  /-- The synchronised mode is selected. -/
  follows : Bool
  /-- Synchronisation has been achieved: `rti_synced` as long as fewer than three edges are missed. -/
  synced : Bool
  /-- The results of the last calculation: `q` (at least 1024), `R`, and the divisor they belong to. -/
  quotient : Nat
  remainder : Nat
  pulses : Nat
  /-- The calculated `q` was less than 1024: bit 4 of the status. -/
  tooShort : Bool
  /-- Clocks since the interval in progress began, the `q` of its frame, the intervals of that still to be started, and how many of those
  are long. -/
  elapsed : Nat
  base : Nat
  left : Nat
  long : Nat
  /-- What the phase-locked loop has in store for a last interval. -/
  adjust : PhaseAdjust
  /-- The model's own: the counter of free values at the last calculation, for an interval too long for the counter (log 40). -/
  draw : Nat
deriving DecidableEq, Repr

/-- The latches behind the System Status Block (R55). -/
structure SysStatus where
  rstFatal : Bool
  rstFault : Bool
  rstWdt : Bool
  rstPwron : Bool
  rb1Trans : Bool
  rb0Trans : Bool
  trapWp : Bool
  trapXp : Bool
  trapI3 : Bool
  trapI2 : Bool
  trapLa : Word
  trapPa : Word
  faultLa : Word
  faultPa : Word
  drqTo : Byte
  waitTo : Byte
deriving DecidableEq, Repr

/-- Memory: the bytes that differ from `Memory.absent`, addresses strictly rising (`Memory.wf`). -/
structure Memory where
  cells : List Host.Cell
deriving DecidableEq, Repr

/-- What a byte that nothing has written reads as (R83 and R106 leave it to the platform). DESIGN CHOICE (log 6), unsafe. -/
def Memory.absent : Byte := 0

/-- The canonical form: addresses strictly rising, and no entry equal to what an unlisted address reads as. -/
abbrev Memory.wf (m : Memory) : Prop :=
  m.cells.Pairwise (fun x y => x.1 < y.1) ∧ ∀ x ∈ m.cells, x.2 ≠ Memory.absent

/-- A range of physical addresses, both ends in it. A predicate on physical addresses (R100) is a list of ranges. -/
structure Region where
  first : Nat
  last : Nat
deriving DecidableEq, Repr

/-- The levels on the input pins (R58) and the board-level parameters (R11), which the source also makes pins. -/
structure Pins where
  /-- `int_req` of the CPU variant, a level (R520). -/
  intReq : Bool
  /-- `int_req_bus` of the MPU variant (R540). -/
  intReqBus : BitVec 16
  /-- `int_req_en` (R541). -/
  intReqEn : BitVec 16
  /-- `ivec_data_in` of the CPU variant (R92). -/
  ivecDataIn : Byte
  /-- `nmi_addr` (R531). -/
  nmiAddr : Word
  /-- `ivec_offset` (R545). -/
  ivecOffset : BitVec 3
  /-- `en_prftch` (R612). -/
  prefetchEn : Bool
  /-- The levels of `reset_bus`, after their synchronisation and before the filter (R561, R591). -/
  resetBus : BitVec 2
  /-- `ext_stat_bus` (R567). -/
  extStat : Byte
  /-- `ref_clock`, after its two stages of synchronisation and before the digital filter (R566, R581). -/
  refClock : Bool
  /-- `wdt_lim` (R576). -/
  wdtLim : Byte
  /-- `drq_act_lim` and `drq_idl_lim` (R571). -/
  drqActLim : BitVec 5
  drqIdlLim : BitVec 5
  /-- `iack_wait_lim`, `io_wait_lim`, `mem_wait_lim` (R573). -/
  iackWaitLim : BitVec 5
  ioWaitLim : BitVec 5
  memWaitLim : BitVec 5
  /-- `rti_default` (R580) and `rti_divisor` (R581). -/
  rtiDefault : BitVec 24
  rtiDivisor : BitVec 7
  /-- Whether the board connects `rti_pulse` to `nmi_req` (R580). -/
  rtiNmi : Bool
  /-- The predicate `ExecInh` (R100). -/
  execInh : List Region
  /-- The predicate `WrInh` (R100). -/
  wrInh : List Region
deriving DecidableEq, Repr

/-- The transaction types with a Wait limit of their own (R573). -/
inductive WaitKind where
  | iack
  | io
  | mem
deriving DecidableEq, Repr

/-- What the environment can do between two instructions (R7, R58, D28). -/
inductive EnvEvent where
  /-- The input pins settle at new levels. -/
  | pins (p : Pins)
  /-- `nmi_req` is sampled active by a clock edge (R45). -/
  | nmi
  /-- So many clocks pass (R577, R578, R571). -/
  | clocks (n : Nat)
  /-- The `resetb` pin of the CPU variant (R590). -/
  | resetb
  /-- The master reset (R601). -/
  | clearb
  /-- `fault_detect`, with the logical address then on the bus (R513). -/
  | faultDetect (la : Word)
  /-- A Wait request reached the limit of its transaction type (R573). -/
  | waitTimeout (k : WaitKind)
deriving DecidableEq, Repr

/-- A request for the bus at a boundary (R570, R572): the levels of `dma_req_bus` (the CPU variant has input 0 alone), what each of the
eight masters writes if it gets the bus, and for how many clocks it keeps it. -/
structure DmaRequest where
  requests : BitVec 8
  writes : Vector (List (Phys × Byte)) 8
  clocks : Nat
deriving DecidableEq, Repr

/-- The environment's part of one step: events in order, then at most one bus request. -/
structure Tick where
  events : List EnvEvent
  dma : Option DmaRequest
deriving DecidableEq, Repr

/-- What the machine shows on its pins: I/O transactions (R90) and pulses. -/
inductive Signal where
  /-- An I/O read of a port and the byte it returned. -/
  | ioRead (port : Word) (v : Byte)
  /-- An I/O write of a byte to a port. -/
  | ioWrite (port : Word) (v : Byte)
  /-- `inst2_trap` (R505). -/
  | inst2Trap
  /-- `inst3_trap` (R506). -/
  | inst3Trap
  /-- `iack_tran`, the maskable acknowledge (R532). -/
  | iackTran
  /-- `nmiack_tran` (R530). -/
  | nmiackTran
  /-- `reti_tran` (R340). -/
  | retiTran
  /-- `int_ack_bus` during an acknowledge (R543). -/
  | intAckBus (bus : BitVec 16)
  /-- `ext_stat_rd` (R567). -/
  | extStatRd
  /-- `dma_ack` during a grant (R570), and the one-hot `dma_ack_bus` of the MPU variant (R572). -/
  | dmaAck
  | dmaAckBus (bus : BitVec 8)
  /-- `drq_timeout` (R571). -/
  | drqTimeout
  /-- `wait_timeout` (R573). -/
  | waitTimeout
  /-- `wdt_timeout` (R578). -/
  | wdtTimeout
  /-- `rti_pulse` (R580). -/
  | rtiPulse
  /-- `fault_detect` (R513). -/
  | faultDetect
deriving DecidableEq, Repr

/-- The whole machine and its environment. INVENTORY.md lists every field with its rule. -/
structure State where
  /-- The active registers A F B C D E H L (R30). -/
  main : Bank
  /-- The alternate registers (R33). -/
  alt : Bank
  ix : Word
  iy : Word
  sp : Word
  /-- The fetch pointer (R38): `next` while an instruction executes. -/
  pc : Word
  i : Byte
  r : Byte
  iff1 : Bool
  iff2 : Bool
  im : IntMode
  runState : RunState
  nmiPending : Bool
  /-- PREFETCHED (R46): the buffered first byte of the next sequential instruction. -/
  prefetched : Option Byte
  /-- The model's own: the two bytes of a repeating instruction between its iterations (UD6, log 14). -/
  repeating : Option (Byte × Byte)
  /-- WP_PENDING (R47). -/
  wpPending : Bool
  /-- NOSAMPLE (R48). -/
  noSample : Bool
  /-- The model's own: the maskable request as last sampled in the Sleep state (R425, log 32). -/
  reqSeen : Bool
  mmu : Mmu
  irq : IrqController
  dma : DmaController
  wdt : WatchDog
  /-- The Real-Time Interrupt generator (R56). -/
  rti : RtiGen
  /-- The digital filters of `reset_bus` (R591). -/
  resetFilter : ResetFilter
  sys : SysStatus
  /-- `fatal_detect`, active until the next reset (R512). -/
  fatalDetect : Bool
  /-- A user reset is requested (R590). -/
  resetReq : Bool
  /-- The main state machine is in an illegal state (R513). -/
  upset : Bool
  mem : Memory
  params : Params
  pins : Pins
  /-- The model's own: what the environment does at the coming boundaries (log 12). -/
  script : List Tick
  /-- The model's own: the bytes the devices answer to the coming I/O reads (log 11). -/
  ioIn : List Byte
  /-- The model's own: the signals so far, newest first (log 37). -/
  trace : List Signal
  /-- The model's own: the counter of free values drawn (log 9). -/
  fresh : Nat
deriving DecidableEq, Repr

/-- Why the machine stops. -/
inductive Fault where
  /-- Raised at a boundary when the main state machine is in an illegal state and no reset is requested (R513): the source gives the
  CPU variant no reaction of the core. Safe: the model stops where the hardware does something unknown. No instruction raises it. -/
  | mainStateUpset
deriving DecidableEq, Repr

/-- Why the model gives a step no meaning. -/
inductive Refusal where
  /-- An instruction without a meaning yet. Safe. Raised only by Dispatch. -/
  | notModelled (mnemonic : String)
  /-- The prefetch hazard (UD4, R612): a buffered byte is not what its address holds now. Raised at a fetch. Safe. -/
  | prefetchHazard
  /-- A repeating instruction whose own bytes changed between iterations (UD6, R613). Raised at a fetch. Safe. -/
  | repeatHazard
deriving DecidableEq, Repr

/-- The outcome of a step or of an instruction. -/
abbrev Result := Host.Outcome State Fault Refusal

/-- All flags clear. -/
def Flags.zero : Flags := ⟨false, false, false, false, false, false, false, false⟩

/-- All registers of a bank zero: the values of State.reset for registers whose reset value the source does not give. DESIGN CHOICE
(log 2), unsafe. -/
def Bank.zero : Bank := ⟨0, Flags.zero, 0, 0, 0, 0, 0, 0⟩

/-- No translation: register N holds 0x000N (R60, R96). -/
def identityMap : Vector Word 16 :=
  #v[0x0000, 0x0001, 0x0002, 0x0003, 0x0004, 0x0005, 0x0006, 0x0007,
     0x0008, 0x0009, 0x000A, 0x000B, 0x000C, 0x000D, 0x000E, 0x000F]

/-- The levels of the input pins at State.reset: everything inactive, the compatible NMI address (R531). DESIGN CHOICE (log 7), unsafe. -/
def Pins.quiet : Pins where
  intReq := false
  intReqBus := 0
  intReqEn := 0
  ivecDataIn := 0
  nmiAddr := 0x0066
  ivecOffset := 0
  prefetchEn := false
  resetBus := 0
  extStat := 0
  refClock := false
  wdtLim := 0
  drqActLim := 0
  drqIdlLim := 0
  iackWaitLim := 0
  ioWaitLim := 0
  memWaitLim := 0
  rtiDefault := 0
  rtiDivisor := 0
  rtiNmi := false
  execInh := []
  wrInh := []

/-- The generator at a power-on reset: free-running, its counter at `count`, nothing measured (R60, R580). The filter starts low. DESIGN
CHOICE but for the mode and the counter (log 40), unsafe. -/
def RtiGen.start (count : Nat) : RtiGen where
  count := count
  filtered := false
  held := 0
  edges := 0
  since := 0
  period := 0
  follows := false
  synced := false
  quotient := 0
  remainder := 0
  pulses := 0
  tooShort := false
  elapsed := 0
  base := 0
  left := 0
  long := 0
  adjust := .exact
  draw := 0

/-- The filters of `reset_bus` when its levels have long passed them. After `clearb` a DESIGN CHOICE (log 42), unsafe. -/
def ResetFilter.settled (pins : BitVec 2) : ResetFilter := ⟨⟨pins.getLsbD 1, 0⟩, ⟨pins.getLsbD 0, 0⟩⟩

/-- The DMA controller and limiter after a reset: DUS 0 (D30). That the limiter's two counters are 0 as well is a DESIGN CHOICE (log 39),
unsafe. -/
def DmaController.idleState : DmaController := ⟨0, 0, 0, false⟩

/-- The status latches after power-on: RST_PWRON set, the trap bits clear (R60); the others at a named value. DESIGN CHOICE (log 5),
unsafe. -/
def SysStatus.powerOn : SysStatus where
  rstFatal := false
  rstFault := false
  rstWdt := false
  rstPwron := true
  rb1Trans := false
  rb0Trans := false
  trapWp := false
  trapXp := false
  trapI3 := false
  trapI2 := false
  trapLa := 0
  trapPa := 0
  faultLa := 0
  faultPa := 0
  drqTo := 0
  waitTo := 0

/-- The machine right after a power-on reset (R60, R600, R601) of an implementation with parameters `p`. The values the spec does not give are
DESIGN CHOICES, each in its log entry (2 to 7, 30, 39, 40, 42). -/
def State.resetWith (p : Params) : State where
  main := Bank.zero
  alt := Bank.zero
  ix := 0
  iy := 0
  sp := p.resetSp
  pc := 0x0000
  i := p.resetI
  r := p.resetR
  iff1 := false
  iff2 := false
  im := .im0
  runState := .run
  nmiPending := false
  prefetched := none
  repeating := none
  wpPending := false
  noSample := false
  reqSeen := false
  mmu := ⟨identityMap, identityMap⟩
  irq := ⟨0, 0⟩
  dma := DmaController.idleState
  wdt := ⟨false, 0, 0, 0⟩
  rti := RtiGen.start 0
  resetFilter := ResetFilter.settled Pins.quiet.resetBus
  sys := SysStatus.powerOn
  fatalDetect := false
  resetReq := false
  upset := false
  mem := ⟨[]⟩
  params := p
  pins := Pins.quiet
  script := []
  ioIn := []
  trace := []
  fresh := 0

/-- The machine right after reset: the MPU variant, which has every instruction of the table (log 1). -/
def State.reset : State := State.resetWith Params.standard

end Sys2Proof.Machine
end

