-- ==== Sys2Proof/Machine/Flags.lean ====
section
/-! DEFINITION. Every flag computation of the spec: the 8-bit helpers (41_arith8.md R220), the 16-bit ones (42_arith16.md), rotates
(43_rotate_bit.md R290), input (46_io.md R380), the DAA table (R228) and the byte form of F (10_state.md R39). A function that ends
in `Flags` takes the old flags and returns the new ones; bits it does not write, U5 and U3 among them, stay as they were
(`State.setFlags` then makes U5 and U3 free). -/

namespace Sys2Proof.Machine

open Sys2Proof

/-- F as a byte: S Z U5 H U3 P/V N C from bit 7 to bit 0 (R39). -/
def Flags.toByte (f : Flags) : Byte :=
  BitVec.ofBool f.s ++ BitVec.ofBool f.z ++ BitVec.ofBool f.u5 ++ BitVec.ofBool f.h ++
    BitVec.ofBool f.u3 ++ BitVec.ofBool f.pv ++ BitVec.ofBool f.n ++ BitVec.ofBool f.c

/-- The flags a byte loaded into F stands for (R39, R41). -/
def Flags.ofByte (v : Byte) : Flags where
  s := v.getLsbD 7
  z := v.getLsbD 6
  u5 := v.getLsbD 5
  h := v.getLsbD 4
  u3 := v.getLsbD 3
  pv := v.getLsbD 2
  n := v.getLsbD 1
  c := v.getLsbD 0

/-- `parity(v)`: true if the number of one bits is even (R15, R220). -/
def parity (v : Byte) : Bool :=
  (List.range 8).countP (fun k => v.getLsbD k) % 2 == 0

/-- The result of `add8` (R220). -/
def add8 (a b : Byte) (cin : Bool) : Byte :=
  BitVec.ofNat 8 (a.toNat + b.toNat + cin.toNat)

/-- S, Z, H, P/V, N as `add8` computes them; C is left alone (R220, R230). -/
def incFlags (f : Flags) (a b : Byte) (cin : Bool) : Flags :=
  let r := add8 a b cin
  { f with
    s := r.msb
    z := r == 0
    h := decide (15 < a.toNat % 16 + b.toNat % 16 + cin.toNat)
    pv := (a.msb == b.msb) && (r.msb != a.msb)
    n := false }

/-- All six flags as `add8` computes them (R220). -/
def addFlags (f : Flags) (a b : Byte) (cin : Bool) : Flags :=
  { incFlags f a b cin with c := decide (255 < a.toNat + b.toNat + cin.toNat) }

/-- The result of `sub8` (R220). -/
def sub8 (a b : Byte) (cin : Bool) : Byte :=
  a - b - BitVec.ofNat 8 cin.toNat

/-- S, Z, H as `sub8` computes them and N set: the flags of CPI and its kin but for P/V (R220, R361). -/
def compareFlags (f : Flags) (a b : Byte) (cin : Bool) : Flags :=
  let r := sub8 a b cin
  { f with
    s := r.msb
    z := r == 0
    h := decide (a.toNat % 16 < b.toNat % 16 + cin.toNat)
    n := true }

/-- S, Z, H, P/V, N as `sub8` computes them; C is left alone (R220, R229). -/
def decFlags (f : Flags) (a b : Byte) (cin : Bool) : Flags :=
  { compareFlags f a b cin with pv := (a.msb != b.msb) && ((sub8 a b cin).msb != a.msb) }

/-- All six flags as `sub8` computes them (R220). -/
def subFlags (f : Flags) (a b : Byte) (cin : Bool) : Flags :=
  { decFlags f a b cin with c := decide (a.toNat < b.toNat + cin.toNat) }

/-- The flags of `logic8(r, h)` (R220). -/
def logicFlags (f : Flags) (r : Byte) (h : Bool) : Flags :=
  { f with
    s := r.msb
    z := r == 0
    h := h
    pv := parity r
    n := false
    c := false }

/-- `inflags(v)` (R380 item 3), and the flags of RLD and RRD from the new A (R297): S, Z, H cleared, parity, N cleared. -/
def inFlags (f : Flags) (v : Byte) : Flags :=
  { f with
    s := v.msb
    z := v == 0
    h := false
    pv := parity v
    n := false }

/-- The flags of LD A,I and LD A,R (R172): P/V takes IFF2. -/
def loadSpecialFlags (f : Flags) (v : Byte) (iff2 : Bool) : Flags :=
  { f with
    s := v.msb
    z := v == 0
    h := false
    pv := iff2
    n := false }

/-- The seven rotates and shifts (R290). -/
inductive RotKind where
  | rlc | rrc | rl | rr | sla | sra | srl
deriving DecidableEq, Repr

/-- The result of `rot(v, kind)` with the old carry (R290). -/
def rotResult (k : RotKind) (v : Byte) (carry : Bool) : Byte :=
  match k with
  | .rlc => v.extractLsb' 0 7 ++ v.extractLsb' 7 1
  | .rrc => v.extractLsb' 0 1 ++ v.extractLsb' 1 7
  | .rl => v.extractLsb' 0 7 ++ BitVec.ofBool carry
  | .rr => BitVec.ofBool carry ++ v.extractLsb' 1 7
  | .sla => v.extractLsb' 0 7 ++ 0#1
  | .sra => v.extractLsb' 7 1 ++ v.extractLsb' 1 7
  | .srl => 0#1 ++ v.extractLsb' 1 7

/-- The bit `rot(v, kind)` moves into the carry (R290). -/
def rotCarry (k : RotKind) (v : Byte) : Bool :=
  match k with
  | .rlc => v.getLsbD 7
  | .rrc => v.getLsbD 0
  | .rl => v.getLsbD 7
  | .rr => v.getLsbD 0
  | .sla => v.getLsbD 7
  | .sra => v.getLsbD 0
  | .srl => v.getLsbD 0

/-- `rotflags(r, co)` (R290). -/
def rotFlags (f : Flags) (r : Byte) (co : Bool) : Flags :=
  { f with
    s := r.msb
    z := r == 0
    h := false
    pv := parity r
    n := false
    c := co }

/-- The flags of RLA, RLCA, RRA, RRCA (R294, R296, R299, R301). -/
def accRotFlags (f : Flags) (co : Bool) : Flags :=
  { f with
    h := false
    n := false
    c := co }

/-- The flags of BIT (R291). -/
def bitFlags (f : Flags) (v : Byte) (b : BitVec 3) : Flags :=
  { f with
    z := !v.getLsbD b.toNat
    h := true
    n := false }

/-- The flags of LDI and its kin (R367): P/V is "the new BC is not 0". -/
def moveFlags (f : Flags) (bc : Word) : Flags :=
  { f with
    h := false
    pv := bc != 0
    n := false }

/-- The flags of CPI and its kin (R363): the compare, then P/V from the new BC. -/
def searchFlags (f : Flags) (a m : Byte) (bc : Word) : Flags :=
  { compareFlags f a m false with pv := bc != 0 }

/-- The flags of INI, IND, OUTD and their repeating forms (R384, R397): Z from the new B, N set. -/
def blockIoFlags (f : Flags) (b : Byte) : Flags :=
  { f with
    z := b == 0
    n := true }

/-- The flags of OUTI and OTIR as printed (R398, C17; log 35): P/V from the new B, N cleared. -/
def outiFlags (f : Flags) (b : Byte) : Flags :=
  { f with
    pv := b == 0
    n := false }

/-- The flags of OTIM and its kin (R391): from the decrement of the old B `b0`, N from the byte moved. -/
def otimFlags (f : Flags) (b0 m : Byte) : Flags :=
  let b := b0 - 1
  { f with
    s := b.msb
    z := b == 0
    h := decide (b0.toNat % 16 = 0)
    pv := parity b
    n := m.getLsbD 7 }

/-- The result of a 16-bit addition (R270, R271). -/
def add16 (a b : Word) (cin : Bool) : Word :=
  BitVec.ofNat 16 (a.toNat + b.toNat + cin.toNat)

/-- The flags of ADD HL,ss and its index forms (R271): H, N and C. -/
def addWordFlags (f : Flags) (a b : Word) (cin : Bool) : Flags :=
  { f with
    h := decide (4095 < a.toNat % 4096 + b.toNat % 4096 + cin.toNat)
    n := false
    c := decide (65535 < a.toNat + b.toNat + cin.toNat) }

/-- The flags of ADC HL,ss (R270). -/
def adcWordFlags (f : Flags) (a b : Word) (cin : Bool) : Flags :=
  let r := add16 a b cin
  { addWordFlags f a b cin with
    s := r.msb
    z := r == 0
    pv := (a.msb == b.msb) && (r.msb != a.msb) }

/-- The result of SBC HL,ss (R275). -/
def sub16 (a b : Word) (cin : Bool) : Word :=
  a - b - BitVec.ofNat 16 cin.toNat

/-- The flags of SBC HL,ss (R275). -/
def sbcWordFlags (f : Flags) (a b : Word) (cin : Bool) : Flags :=
  let r := sub16 a b cin
  { f with
    s := r.msb
    z := r == 0
    h := decide (a.toNat % 4096 < b.toNat % 4096 + cin.toNat)
    pv := (a.msb != b.msb) && (r.msb != a.msb)
    n := true
    c := decide (a.toNat < b.toNat + cin.toNat) }

/-- One row of the DAA table (R228): N and C before, the ranges of A[7:4] and A[3:0] before, H before, the number added, C after. -/
structure DaaRow where
  n : Bool
  c : Bool
  highFrom : Nat
  highTo : Nat
  h : Bool
  lowFrom : Nat
  lowTo : Nat
  addend : Byte
  carry : Bool
deriving DecidableEq, Repr

/-- The DAA table (R228), in the order the spec prints it. -/
def daaTable : List DaaRow :=
  [⟨false, false, 0x0, 0x9, false, 0x0, 0x9, 0x00, false⟩,
   ⟨false, false, 0x0, 0x8, false, 0xA, 0xF, 0x06, false⟩,
   ⟨false, false, 0x0, 0x9, true, 0x0, 0x3, 0x06, false⟩,
   ⟨false, false, 0xA, 0xF, false, 0x0, 0x9, 0x60, true⟩,
   ⟨false, false, 0x9, 0xF, false, 0xA, 0xF, 0x66, true⟩,
   ⟨false, false, 0xA, 0xF, true, 0x0, 0x3, 0x66, true⟩,
   ⟨false, true, 0x0, 0x2, false, 0x0, 0x9, 0x60, true⟩,
   ⟨false, true, 0x0, 0x2, false, 0xA, 0xF, 0x66, true⟩,
   ⟨false, true, 0x0, 0x3, true, 0x0, 0x3, 0x66, true⟩,
   ⟨true, false, 0x0, 0x9, false, 0x0, 0x9, 0x00, false⟩,
   ⟨true, false, 0x0, 0x8, true, 0x6, 0xF, 0xFA, false⟩,
   ⟨true, true, 0x7, 0xF, false, 0x0, 0x9, 0xA0, true⟩,
   ⟨true, true, 0x6, 0xF, true, 0x6, 0xF, 0x9A, true⟩]

/-- Whether a row of the table is the one for these flags and this A (R228). -/
def DaaRow.applies (row : DaaRow) (f : Flags) (a : Byte) : Bool :=
  row.n == f.n && row.c == f.c && row.h == f.h &&
    decide (row.highFrom ≤ a.toNat / 16 ∧ a.toNat / 16 ≤ row.highTo) &&
    decide (row.lowFrom ≤ a.toNat % 16 ∧ a.toNat % 16 ≤ row.lowTo)

/-- The row of the table that applies, if there is one (R228). -/
def daaRow (f : Flags) (a : Byte) : Option DaaRow :=
  daaTable.find? (fun row => row.applies f a)

/-- `cond(fff)` (R330). -/
def condHolds (f : Flags) : Cond → Bool
  | .nz => !f.z
  | .z => f.z
  | .nc => !f.c
  | .c => f.c
  | .po => !f.pv
  | .pe => f.pv
  | .p => !f.s
  | .m => f.s

/-- The condition of JR cc: `cond({0, cc})` (R330, R337). -/
def condJrHolds (f : Flags) : CondJr → Bool
  | .nz => !f.z
  | .z => f.z
  | .nc => !f.c
  | .c => f.c

end Sys2Proof.Machine
end

