-- ==== Sys2Proof/Machine/Operands.lean ====
section
/-! DEFINITION. The register operands: `r8`, the word register tables (30_encoding.md R124, R125), pairs (10_state.md R31), the index
registers and the address of an indexed operand (R127). Every read and write of a register goes through these. -/

namespace Sys2Proof.Machine

open Sys2Proof

/-- The low byte of a word. -/
def low (w : Word) : Byte := w.extractLsb' 0 8

/-- The high byte of a word. -/
def high (w : Word) : Byte := w.extractLsb' 8 8

/-- `r8[c]` (R124). -/
def State.r8 (s : State) : Reg8 → Byte
  | .b => s.main.b
  | .c => s.main.c
  | .d => s.main.d
  | .e => s.main.e
  | .h => s.main.h
  | .l => s.main.l
  | .a => s.main.a

/-- `r8[c] <- v` on a bank (R124). -/
def Bank.setR8 (m : Bank) (r : Reg8) (v : Byte) : Bank :=
  match r with
  | .b => { m with b := v }
  | .c => { m with c := v }
  | .d => { m with d := v }
  | .e => { m with e := v }
  | .h => { m with h := v }
  | .l => { m with l := v }
  | .a => { m with a := v }

/-- `r8[c] <- v` (R124). -/
def State.setR8 (s : State) (r : Reg8) (v : Byte) : State :=
  { s with main := s.main.setR8 r v }

/-- `A <- v`. -/
def State.setA (s : State) (v : Byte) : State :=
  { s with main := { s.main with a := v } }

/-- The pair BC (R31). -/
def State.bc (s : State) : Word := s.main.b ++ s.main.c

/-- The pair DE (R31). -/
def State.de (s : State) : Word := s.main.d ++ s.main.e

/-- The pair HL (R31). -/
def State.hl (s : State) : Word := s.main.h ++ s.main.l

/-- The pair AF, A the high byte (R31, G8; log 29). -/
def State.af (s : State) : Word := s.main.a ++ s.main.f.toByte

/-- `BC <- v`. -/
def State.setBc (s : State) (v : Word) : State :=
  { s with main := { s.main with b := high v, c := low v } }

/-- `DE <- v`. -/
def State.setDe (s : State) (v : Word) : State :=
  { s with main := { s.main with d := high v, e := low v } }

/-- `HL <- v`. -/
def State.setHl (s : State) (v : Word) : State :=
  { s with main := { s.main with h := high v, l := low v } }

/-- `AF <- v`: all eight bits of F are loaded (R41, R182). -/
def State.setAf (s : State) (v : Word) : State :=
  { s with main := { s.main with a := high v, f := Flags.ofByte (low v) } }

/-- `SP <- v`. -/
def State.setSp (s : State) (v : Word) : State := { s with sp := v }

/-- `PC <- v`. -/
def State.setPc (s : State) (v : Word) : State := { s with pc := v }

/-- The index register `XY` (R15). -/
def State.idx (s : State) : Idx → Word
  | .ix => s.ix
  | .iy => s.iy

/-- `XY <- v`. -/
def State.setIdx (s : State) (y : Idx) (v : Word) : State :=
  match y with
  | .ix => { s with ix := v }
  | .iy => { s with iy := v }

/-- `rp_dd[c]` (R125). -/
def State.rp (s : State) : RegSs → Word
  | .bc => s.bc
  | .de => s.de
  | .hl => s.hl
  | .sp => s.sp

/-- `rp_dd[c] <- v` (R125). -/
def State.setRp (s : State) (r : RegSs) (v : Word) : State :=
  match r with
  | .bc => s.setBc v
  | .de => s.setDe v
  | .hl => s.setHl v
  | .sp => s.setSp v

/-- `rp_tt[c]` (R125). -/
def State.rpTt (s : State) : RegTt → Word
  | .bc => s.bc
  | .de => s.de
  | .hl => s.hl
  | .af => s.af

/-- `rp_tt[c] <- v` (R125). -/
def State.setRpTt (s : State) (r : RegTt) (v : Word) : State :=
  match r with
  | .bc => s.setBc v
  | .de => s.setDe v
  | .hl => s.setHl v
  | .af => s.setAf v

/-- `rp_xx[c]` (R125). -/
def State.rpXx (s : State) : RegXx → Word
  | .bc => s.bc
  | .de => s.de
  | .ix => s.ix
  | .sp => s.sp

/-- `rp_yy[c]` (R125). -/
def State.rpYy (s : State) : RegYy → Word
  | .bc => s.bc
  | .de => s.de
  | .iy => s.iy
  | .sp => s.sp

/-- `(XY + sext_16(d)) mod 2^16`, the address of (IX+d) or (IY+d); `d` is signed (R127, G3; log 29). -/
def State.indexed (s : State) (y : Idx) (d : Byte) : Word :=
  s.idx y + d.signExtend 16

/-- Writing flags: the six named flags as `f` has them, U5 and U3 free (R41, UD1; log 9). Every instruction whose rule writes a named
flag ends in this. -/
def State.setFlags (s : State) (f : Flags) : State :=
  { s with
    main := { s.main with
      f := { f with u5 := Config.freeBit s.fresh .u5, u3 := Config.freeBit s.fresh .u3 } }
    fresh := s.fresh + 1 }

end Sys2Proof.Machine
end

