-- ==== Sys2Proof/Machine/Ops.lean ====
section
/-! DEFINITION. The named operations over memory, ports and control state: memory with translation and protection (20_memory.md), the
stack (R170), I/O (R90), taking an exception and returning from one (60_exceptions.md R501, R505 to R512, R530, R532), the interrupt
controller (R540 to R545), and reset (70_reset_and_hazards.md R600, R601). -/

namespace Sys2Proof.Machine

open Sys2Proof

/-- A byte of memory at a physical address; an unlisted one reads as `Memory.absent` (R83). -/
def Memory.read (m : Memory) (a : Nat) : Byte :=
  match m.cells.find? (fun x => x.1 == a) with
  | some x => x.2
  | none => Memory.absent

/-- Insert a cell before the first one with a greater address. -/
def Memory.insertCell (x : Host.Cell) : List Host.Cell → List Host.Cell
  | [] => [x]
  | y :: ys => if x.1 < y.1 then x :: y :: ys else y :: Memory.insertCell x ys

/-- Store a byte at a physical address, in canonical form. -/
def Memory.store (m : Memory) (a : Nat) (v : Byte) : Memory :=
  let rest := m.cells.filter (fun x => x.1 != a)
  ⟨if v = Memory.absent then rest else Memory.insertCell (a, v) rest⟩

/-- The model shows a signal on a pin (log 37). -/
def State.emit (s : State) (x : Signal) : State :=
  { s with trace := x :: s.trace }

/-- Whether the machine is the MPU variant. -/
def State.isMpu (s : State) : Bool := s.params.variant == .mpu

/-- `Translate(la)` (R95); the CPU variant uses the low 16 bits of the 28 (log 34). -/
def State.translate (s : State) (la : Word) : Phys :=
  match s.params.variant with
  | .cpu => la.setWidth 28
  | .mpu => s.mmu.active[(la.extractLsb' 12 4).toFin] ++ la.extractLsb' 0 12

/-- Whether a physical address lies in one of the regions. -/
def inRegions (rs : List Region) (pa : Phys) : Bool :=
  rs.any (fun x => decide (x.first ≤ pa.toNat ∧ pa.toNat ≤ x.last))

/-- `ExecInh(pa)`; constantly false in the CPU variant (R100). -/
def State.execInh (s : State) (pa : Phys) : Bool :=
  s.isMpu && inRegions s.pins.execInh pa

/-- `WrInh(pa)`; constantly false in the CPU variant (R100). -/
def State.wrInh (s : State) (pa : Phys) : Bool :=
  s.isMpu && inRegions s.pins.wrInh pa

/-- `MemRead(la)` (R84): no side effect, no protection. -/
def State.readByte (s : State) (la : Word) : Byte :=
  s.mem.read (s.translate la).toNat

/-- `MemRead16(la)`: low byte first (R86). -/
def State.readWord (s : State) (la : Word) : Word :=
  s.readByte (la + 1) ++ s.readByte la

/-- Bits 27:12 of a physical address, as the address latches hold them (R55). -/
def physPage (pa : Phys) : Word := pa.extractLsb' 12 16

/-- The Trap Address latches take a logical address and its translation (R563). -/
def State.latchTrap (s : State) (la : Word) : State :=
  { s with sys := { s.sys with trapLa := la, trapPa := physPage (s.translate la) } }

/-- Fatal Error (R512): the status, the pin, and a reset request for the next step (D43). -/
def State.fatalError (s : State) : State :=
  { s with sys := { s.sys with rstFatal := true }, fatalDetect := true, resetReq := true }

/-- Part 1 of the Write Protect trap (R511): nothing is stored, the trap is recorded and pending; a stack write is a Fatal Error. -/
def State.inhibitWrite (s : State) (stack : Bool) (la : Word) : State :=
  let t := { s with
    sys := { s.sys with trapWp := true, trapLa := la, trapPa := physPage (s.translate la) }
    wpPending := true }
  if stack then t.fatalError else t

/-- `MemWrite(la, v)` (R85); `stack` is `is_stack_write`. -/
def State.writeByte (s : State) (stack : Bool) (la : Word) (v : Byte) : State :=
  if s.wrInh (s.translate la) then s.inhibitWrite stack la
  else { s with mem := s.mem.store (s.translate la).toNat v }

/-- `MemWrite16(la, w)`: low byte first (R86, D13). -/
def State.writeWord (s : State) (stack : Bool) (la : Word) (w : Word) : State :=
  (s.writeByte stack la (low w)).writeByte stack (la + 1) (high w)

/-- `push16(v)`: two stack writes, high byte first, then SP (R170, D13). -/
def State.push16 (s : State) (v : Word) : State :=
  ((s.writeByte true (s.sp - 1) (high v)).writeByte true (s.sp - 2) (low v)).setSp (s.sp - 2)

/-- The word `pop16()` returns (R170). -/
def State.top (s : State) : Word := s.readWord s.sp

/-- What `pop16()` does to SP (R170). -/
def State.dropWord (s : State) : State := s.setSp (s.sp + 2)

/-- The byte an I/O read returns: the environment's next answer, or a free value (R90; log 11). -/
def State.portValue (s : State) : Byte :=
  match s.ioIn with
  | v :: _ => v
  | [] => Config.freeByte s.fresh .ioRead

/-- `IORead(port)` (R90): the transaction happens once. The byte it returned is `portValue` of the state before. -/
def State.portRead (s : State) (port : Word) : State :=
  { s with
    trace := .ioRead port s.portValue :: s.trace
    ioIn := s.ioIn.tail
    fresh := s.fresh + 1 }

/-- `IOWrite(port, v)` (R90). -/
def State.portWrite (s : State) (port : Word) (v : Byte) : State :=
  s.emit (.ioWrite port v)

/-- A port of page 0: `{0x00, n}` (R90). -/
def page0 (n : Byte) : Word := 0#8 ++ n

/-- Transfer of control with a return address on the stack: the one shared step of CALL, RST, every trap and every acknowledge (R170,
R331, R501). -/
def State.enter (s : State) (stacked target : Word) : State :=
  (s.push16 stacked).setPc target

/-- `PC <- pop16()`: the one shared step of RET, RET cc, RETI and RETN (R338). -/
def State.leave (s : State) : State :=
  s.dropWord.setPc s.top

/-- What the fetch of an instruction that is not the buffered or repeating one leaves behind: an empty PREFETCHED (R612) and no
repeat in progress. -/
def State.dropBuffers (s : State) : State :=
  { s with prefetched := none, repeating := none }

/-- `TrapEntry(stacked)` (R501): nothing changes but the stack, SP and PC. -/
def State.trapEntry (s : State) (stacked : Word) : State :=
  (s.enter stacked 0x0000).dropBuffers

/-- The Illegal Instruction (2nd byte) trap for an instruction that starts at `start` (R505, D11). -/
def State.illegal2Trap (s : State) (start : Word) : State :=
  let t := s.emit .inst2Trap
  let t := if t.isMpu then { t with sys := { t.sys with trapI2 := true } }.latchTrap start else t
  t.trapEntry (start + 1)

/-- The Illegal Instruction (3rd byte) trap (R506). The discarded data read has no effect (R84). -/
def State.illegal3Trap (s : State) (start : Word) : State :=
  let t := s.emit .inst3Trap
  let t := if t.isMpu then { t with sys := { t.sys with trapI3 := true } }.latchTrap (start + 2) else t
  t.trapEntry (start + 2)

/-- Whether a logical address is in Page 0 (R101). -/
def inPage0 (la : Word) : Bool := la.extractLsb' 12 4 == 0

/-- The Execute Inhibit trap at PC (R510); in Page 0 it is a Fatal Error (R512). -/
def State.execInhibitTrap (s : State) : State :=
  let la := s.pc
  let t := ({ s with sys := { s.sys with trapXp := true } }.latchTrap la).trapEntry (la + 1)
  if inPage0 la then t.fatalError else t

/-- Which trap status and address the System Status holds when both jams meet: free values (R503, UD8; log 16). -/
def State.doubleJam (s : State) : State :=
  { s with
    sys := { s.sys with
      trapWp := Config.freeBit s.fresh .jamWp
      trapXp := Config.freeBit s.fresh .jamXp
      trapLa := Config.freeWord s.fresh .jamLa
      trapPa := Config.freeWord s.fresh .jamPa }
    fresh := s.fresh + 1 }

/-- Part 2 of the Write Protect trap: RST 0 in place of the instruction at PC (R511). If that fetch is itself execute-inhibited, the
status is free (UD8) and the Fatal Error check of R512 still applies. -/
def State.writeProtectTrap (s : State) : State :=
  let la := s.pc
  let t := { s with wpPending := false }
  if s.execInh (s.translate la) then
    let t := t.doubleJam.trapEntry (la + 1)
    if inPage0 la then t.fatalError else t
  else t.trapEntry (la + 1)

/-- The Non-Maskable Interrupt acknowledge (R530, D6): IFF2 is kept. -/
def State.nmiAck (s : State) : State :=
  let t := (s.emit .nmiackTran).dropBuffers
  { t with nmiPending := false, runState := .run, iff1 := false }.enter s.pc s.pins.nmiAddr

/-- `higher(j, i)` (R542). -/
def higher (o : PriorityOrder) (j i : Nat) : Bool :=
  match o with
  | .lowIndexHigh => decide (j < i)
  | .highIndexHigh => decide (i < j)

/-- The sixteen inputs, the one of highest priority first (R542). -/
def byPriority (o : PriorityOrder) : List Nat :=
  match o with
  | .lowIndexHigh => List.range 16
  | .highIndexHigh => (List.range 16).reverse

/-- `blocked(i)` (R542, D41). -/
def State.blocked (s : State) (i : Nat) : Bool :=
  (List.range 16).any (fun j => s.irq.ius.getLsbD j && (j == i || higher s.params.intPriorityOrder j i))

/-- `eligible(i)` (R542). -/
def State.eligible (s : State) (i : Nat) : Bool :=
  s.irq.latch.getLsbD i && s.pins.intReqEn.getLsbD i && !s.blocked i

/-- The eligible input of highest priority (R542). -/
def State.topRequest (s : State) : Option Nat :=
  (byPriority s.params.intPriorityOrder).find? (fun i => s.eligible i)

/-- `int_req` as the core sees it: the pin, or the controller's output (R520, R542). -/
def State.intReq (s : State) : Bool :=
  match s.params.variant with
  | .cpu => s.pins.intReq
  | .mpu => s.topRequest.isSome

/-- `Vector(k)` (R545). -/
def State.vectorOf (s : State) (k : Nat) : Byte :=
  match s.im with
  | .im2 => s.pins.ivecOffset ++ BitVec.ofNat 4 k ++ 0#1
  | .im0 => 0b11#2 ++ s.pins.ivecOffset ++ 0b111#3
  | .im1 => 0b11#2 ++ s.pins.ivecOffset ++ 0b111#3

/-- The vector of a maskable acknowledge: the pins, or the controller's for the request it acknowledges (R532, R543). -/
def State.ackVector (s : State) : Byte :=
  match s.params.variant, s.topRequest with
  | .cpu, _ => s.pins.ivecDataIn
  | .mpu, some k => s.vectorOf k
  | .mpu, none => s.vectorOf 0

/-- One bit of a 16-bit bus. -/
def bit16 (k : Nat) : BitVec 16 := BitVec.twoPow 16 k

/-- The controller's actions at a maskable acknowledge (R543). -/
def State.controllerAck (s : State) : State :=
  match s.params.variant, s.topRequest with
  | .mpu, some k =>
    { s with irq := { latch := s.irq.latch &&& ~~~bit16 k, ius := s.irq.ius ||| bit16 k } }.emit (.intAckBus (bit16 k))
  | _, _ => s

/-- Where a maskable acknowledge goes (R533, R534, R535, D21). -/
def State.ackTarget (s : State) (v : Byte) : Word :=
  match s.im with
  | .im0 => 0#10 ++ v.extractLsb' 3 3 ++ 0#3
  | .im1 => 0x0038
  | .im2 => s.readWord (s.i ++ v)

/-- The maskable interrupt acknowledge (R532, D6). The table of Mode 2 is read before the pushes (R535). -/
def State.intAck (s : State) : State :=
  let t := (s.controllerAck.emit .iackTran).dropBuffers
  { t with runState := .run, iff1 := false, iff2 := false }.enter s.pc (s.ackTarget s.ackVector)

/-- The RETI signal (R340) and its effect on the interrupt controller: the highest-priority IUS bit that is set is cleared (R544). -/
def State.retiSignal (s : State) : State :=
  let t := s.emit .retiTran
  match s.params.variant, (byPriority s.params.intPriorityOrder).find? (fun j => s.irq.ius.getLsbD j) with
  | .mpu, some j => { t with irq := { t.irq with ius := t.irq.ius &&& ~~~bit16 j } }
  | _, _ => t

/-- The part of a user reset that only the MPU has (R600, R60); DRQ_TO and WAIT_TO are free after it (log 20). The zero counters of the
DMA limiter (log 39) and of the Watch-Dog (log 30) are the model's choice: R53, R54, R60 and R600 give them no value. -/
def State.mpuReset (s : State) : State :=
  { s with
    mmu := ⟨identityMap, identityMap⟩
    irq := ⟨0, 0⟩
    dma := DmaController.idleState
    wdt := ⟨false, 0, 0, 0⟩
    sys := { s.sys with drqTo := Config.freeByte s.fresh .drqTo, waitTo := Config.freeByte s.fresh .waitTo }
    fresh := s.fresh + 1 }

/-- The user reset (R600). General registers, the alternate bank, IX, IY, memory, the status bits, the address latches, the RTI
generator and the filters of `reset_bus` stay (for the last, log 42). -/
def State.userReset (s : State) : State :=
  let t := { s with
    pc := 0x0000
    i := s.params.resetI
    r := s.params.resetR
    sp := s.params.resetSp
    iff1 := false
    iff2 := false
    im := .im0
    runState := .run
    nmiPending := false
    wpPending := false
    noSample := false
    reqSeen := false
    prefetched := none
    repeating := none
    fatalDetect := false
    resetReq := false
    upset := false }
  if s.isMpu then t.mpuReset else t

/-- Free values in every general register, both banks, IX and IY (R601, R513, UD9, UD11; log 17, 19). -/
def State.freeRegisters (s : State) : State :=
  { s with
    main := ⟨Config.freeByte s.fresh .regA, Flags.ofByte (Config.freeByte s.fresh .regF), Config.freeByte s.fresh .regB,
      Config.freeByte s.fresh .regC, Config.freeByte s.fresh .regD, Config.freeByte s.fresh .regE,
      Config.freeByte s.fresh .regH, Config.freeByte s.fresh .regL⟩
    alt := ⟨Config.freeByte s.fresh .altA, Flags.ofByte (Config.freeByte s.fresh .altF), Config.freeByte s.fresh .altB,
      Config.freeByte s.fresh .altC, Config.freeByte s.fresh .altD, Config.freeByte s.fresh .altE,
      Config.freeByte s.fresh .altH, Config.freeByte s.fresh .altL⟩
    ix := Config.freeWord s.fresh .regIx
    iy := Config.freeWord s.fresh .regIy
    fresh := s.fresh + 1 }

/-- The status latches after the master reset (R601). -/
def State.powerOnStatus (s : State) : State :=
  { s with
    sys := {
      rstFatal := Config.freeBit s.fresh .rstFatal
      rstFault := Config.freeBit s.fresh .rstFault
      rstWdt := Config.freeBit s.fresh .rstWdt
      rstPwron := true
      rb1Trans := Config.freeBit s.fresh .rb1
      rb0Trans := Config.freeBit s.fresh .rb0
      trapWp := false
      trapXp := false
      trapI3 := false
      trapI2 := false
      trapLa := Config.freeWord s.fresh .trapLa
      trapPa := Config.freeWord s.fresh .trapPa
      faultLa := Config.freeWord s.fresh .faultLa
      faultPa := Config.freeWord s.fresh .faultPa
      drqTo := Config.freeByte s.fresh .drqTo
      waitTo := Config.freeByte s.fresh .waitTo }
    fresh := s.fresh + 1 }

end Sys2Proof.Machine
end

