-- ==== Sys2Proof/Machine/Arith16.lean ====
section
/-! DEFINITION. The 16-bit arithmetic instructions (42_arith16.md). -/

namespace Sys2Proof.Machine

open Sys2Proof

/-- ADC HL,ss (R270). -/
def execAdcHlSs (ss : RegSs) (s : State) : Result :=
  let c := s.main.f.c
  .next ((s.setHl (add16 s.hl (s.rp ss) c)).setFlags (adcWordFlags s.main.f s.hl (s.rp ss) c))

/-- ADD HL,ss (R271). -/
def execAddHlSs (ss : RegSs) (s : State) : Result :=
  .next ((s.setHl (add16 s.hl (s.rp ss) false)).setFlags (addWordFlags s.main.f s.hl (s.rp ss) false))

/-- ADD IX,xx (R271). -/
def execAddIxXx (xx : RegXx) (s : State) : Result :=
  .next ((s.setIdx .ix (add16 s.ix (s.rpXx xx) false)).setFlags (addWordFlags s.main.f s.ix (s.rpXx xx) false))

/-- ADD IY,yy (R271). -/
def execAddIyYy (yy : RegYy) (s : State) : Result :=
  .next ((s.setIdx .iy (add16 s.iy (s.rpYy yy) false)).setFlags (addWordFlags s.main.f s.iy (s.rpYy yy) false))

/-- DEC dd (R272). -/
def execDecDd (dd : RegSs) (s : State) : Result := .next (s.setRp dd (s.rp dd - 1))

/-- DEC IX or IY (R272). -/
def execDecXy (y : Idx) (s : State) : Result := .next (s.setIdx y (s.idx y - 1))

/-- INC dd (R273). -/
def execIncDd (dd : RegSs) (s : State) : Result := .next (s.setRp dd (s.rp dd + 1))

/-- INC IX or IY (R273). -/
def execIncXy (y : Idx) (s : State) : Result := .next (s.setIdx y (s.idx y + 1))

/-- MLT ss (R274): the unsigned product of the two halves. `MUL_MODE` changes no result. -/
def execMltSs (ss : RegSs) (s : State) : Result :=
  let v := s.rp ss
  .next (s.setRp ss ((high v).setWidth 16 * (low v).setWidth 16))

/-- SBC HL,ss (R275). -/
def execSbcHlSs (ss : RegSs) (s : State) : Result :=
  let c := s.main.f.c
  .next ((s.setHl (sub16 s.hl (s.rp ss) c)).setFlags (sbcWordFlags s.main.f s.hl (s.rp ss) c))

end Sys2Proof.Machine
end

