-- ==== Sys2Proof/Machine/Arith8.lean ====
section
/-! DEFINITION. The 8-bit arithmetic and logic instructions (41_arith8.md). -/

namespace Sys2Proof.Machine

open Sys2Proof

/-- `A <- add8(A, src, cin)` with all flags (R220, R222, R223). -/
def State.addA (s : State) (v : Byte) (cin : Bool) : State :=
  (s.setA (add8 s.main.a v cin)).setFlags (addFlags s.main.f s.main.a v cin)

/-- `A <- sub8(A, src, cin)` with all flags (R220, R233, R235). -/
def State.subA (s : State) (v : Byte) (cin : Bool) : State :=
  (s.setA (sub8 s.main.a v cin)).setFlags (subFlags s.main.f s.main.a v cin)

/-- `discard sub8(A, src, 0)`: the flags alone (R226). -/
def State.compareA (s : State) (v : Byte) : State :=
  s.setFlags (subFlags s.main.f s.main.a v false)

/-- `A <- logic8(r, h)` with all flags (R220, R224, R232, R237). -/
def State.logicA (s : State) (r : Byte) (h : Bool) : State :=
  (s.setA r).setFlags (logicFlags s.main.f r h)

/-- `discard logic8(A and src, 1)`: the flags alone (R236). -/
def State.testA (s : State) (v : Byte) : State :=
  s.setFlags (logicFlags s.main.f (s.main.a &&& v) true)

/-- INC of a memory byte (R230). -/
def State.incMem (s : State) (la : Word) : State :=
  let v := s.readByte la
  (s.writeByte false la (add8 v 1 false)).setFlags (incFlags s.main.f v 1 false)

/-- DEC of a memory byte (R229). -/
def State.decMem (s : State) (la : Word) : State :=
  let v := s.readByte la
  (s.writeByte false la (sub8 v 1 false)).setFlags (decFlags s.main.f v 1 false)

/-- ADD A,r (R223). -/
def execAddAR (r : Reg8) (s : State) : Result := .next (s.addA (s.r8 r) false)

/-- ADD A,n (R223). -/
def execAddAN (n : Byte) (s : State) : Result := .next (s.addA n false)

/-- ADD A,(HL) (R223). -/
def execAddAHl (s : State) : Result := .next (s.addA (s.readByte s.hl) false)

/-- ADD A,(IX+d) or (IY+d) (R223). -/
def execAddAXd (y : Idx) (d : Byte) (s : State) : Result := .next (s.addA (s.readByte (s.indexed y d)) false)

/-- ADC A,r (R222). -/
def execAdcAR (r : Reg8) (s : State) : Result := .next (s.addA (s.r8 r) s.main.f.c)

/-- ADC A,n (R222). -/
def execAdcAN (n : Byte) (s : State) : Result := .next (s.addA n s.main.f.c)

/-- ADC A,(HL) (R222). -/
def execAdcAHl (s : State) : Result := .next (s.addA (s.readByte s.hl) s.main.f.c)

/-- ADC A,(IX+d) or (IY+d) (R222). -/
def execAdcAXd (y : Idx) (d : Byte) (s : State) : Result := .next (s.addA (s.readByte (s.indexed y d)) s.main.f.c)

/-- SUB A,r (R235). -/
def execSubAR (r : Reg8) (s : State) : Result := .next (s.subA (s.r8 r) false)

/-- SUB A,n (R235). -/
def execSubAN (n : Byte) (s : State) : Result := .next (s.subA n false)

/-- SUB A,(HL) (R235). -/
def execSubAHl (s : State) : Result := .next (s.subA (s.readByte s.hl) false)

/-- SUB A,(IX+d) or (IY+d) (R235). -/
def execSubAXd (y : Idx) (d : Byte) (s : State) : Result := .next (s.subA (s.readByte (s.indexed y d)) false)

/-- SBC A,r (R233). -/
def execSbcAR (r : Reg8) (s : State) : Result := .next (s.subA (s.r8 r) s.main.f.c)

/-- SBC A,n (R233). -/
def execSbcAN (n : Byte) (s : State) : Result := .next (s.subA n s.main.f.c)

/-- SBC A,(HL) (R233). -/
def execSbcAHl (s : State) : Result := .next (s.subA (s.readByte s.hl) s.main.f.c)

/-- SBC A,(IX+d) or (IY+d) (R233). -/
def execSbcAXd (y : Idx) (d : Byte) (s : State) : Result := .next (s.subA (s.readByte (s.indexed y d)) s.main.f.c)

/-- AND A,r (R224). -/
def execAndAR (r : Reg8) (s : State) : Result := .next (s.logicA (s.main.a &&& s.r8 r) true)

/-- AND A,n (R224). -/
def execAndAN (n : Byte) (s : State) : Result := .next (s.logicA (s.main.a &&& n) true)

/-- AND A,(HL) (R224). -/
def execAndAHl (s : State) : Result := .next (s.logicA (s.main.a &&& s.readByte s.hl) true)

/-- AND A,(IX+d) or (IY+d) (R224). -/
def execAndAXd (y : Idx) (d : Byte) (s : State) : Result := .next (s.logicA (s.main.a &&& s.readByte (s.indexed y d)) true)

/-- XOR A,r (R237). -/
def execXorAR (r : Reg8) (s : State) : Result := .next (s.logicA (s.main.a ^^^ s.r8 r) false)

/-- XOR A,n (R237). -/
def execXorAN (n : Byte) (s : State) : Result := .next (s.logicA (s.main.a ^^^ n) false)

/-- XOR A,(HL) (R237). -/
def execXorAHl (s : State) : Result := .next (s.logicA (s.main.a ^^^ s.readByte s.hl) false)

/-- XOR A,(IX+d) or (IY+d) (R237). -/
def execXorAXd (y : Idx) (d : Byte) (s : State) : Result := .next (s.logicA (s.main.a ^^^ s.readByte (s.indexed y d)) false)

/-- OR A,r (R232). -/
def execOrAR (r : Reg8) (s : State) : Result := .next (s.logicA (s.main.a ||| s.r8 r) false)

/-- OR A,n (R232). -/
def execOrAN (n : Byte) (s : State) : Result := .next (s.logicA (s.main.a ||| n) false)

/-- OR A,(HL) (R232). -/
def execOrAHl (s : State) : Result := .next (s.logicA (s.main.a ||| s.readByte s.hl) false)

/-- OR A,(IX+d) or (IY+d) (R232). -/
def execOrAXd (y : Idx) (d : Byte) (s : State) : Result := .next (s.logicA (s.main.a ||| s.readByte (s.indexed y d)) false)

/-- CP A,r (R226). -/
def execCpAR (r : Reg8) (s : State) : Result := .next (s.compareA (s.r8 r))

/-- CP A,n (R226). -/
def execCpAN (n : Byte) (s : State) : Result := .next (s.compareA n)

/-- CP A,(HL) (R226). -/
def execCpAHl (s : State) : Result := .next (s.compareA (s.readByte s.hl))

/-- CP A,(IX+d) or (IY+d) (R226). -/
def execCpAXd (y : Idx) (d : Byte) (s : State) : Result := .next (s.compareA (s.readByte (s.indexed y d)))

/-- CCF (R225): H is the old carry, or 0 when `CCF_MODE` is Z180_CCF. -/
def execCcf (s : State) : Result :=
  let f := s.main.f
  let h :=
    match s.params.ccfMode with
    | .z80 => f.c
    | .z180 => false
  .next (s.setFlags { f with h := h, n := false, c := !f.c })

/-- CPL (R227). -/
def execCpl (s : State) : Result :=
  .next ((s.setA (s.main.a ^^^ 0xFF)).setFlags { s.main.f with h := true, n := true })

/-- DAA (R228). H is free always; outside the table A and the flags but N are free (D33; log 10). -/
def execDaa (s : State) : Result :=
  let f := s.main.f
  match daaRow f s.main.a with
  | some row =>
    let r := s.main.a + row.addend
    .next ((s.setA r).setFlags { f with
      s := r.msb
      z := r == 0
      h := Config.freeBit s.fresh .daaH
      pv := parity r
      c := row.carry })
  | none =>
    .next ((s.setA (Config.freeByte s.fresh .daaA)).setFlags { f with
      s := Config.freeBit s.fresh .daaS
      z := Config.freeBit s.fresh .daaZ
      h := Config.freeBit s.fresh .daaH
      pv := Config.freeBit s.fresh .daaPv
      c := Config.freeBit s.fresh .daaC })

/-- DEC r (R229). -/
def execDecR (r : Reg8) (s : State) : Result :=
  let v := s.r8 r
  .next ((s.setR8 r (sub8 v 1 false)).setFlags (decFlags s.main.f v 1 false))

/-- DEC (HL) (R229). -/
def execDecHl (s : State) : Result := .next (s.decMem s.hl)

/-- DEC (IX+d) or (IY+d) (R229). -/
def execDecXd (y : Idx) (d : Byte) (s : State) : Result := .next (s.decMem (s.indexed y d))

/-- INC r (R230). -/
def execIncR (r : Reg8) (s : State) : Result :=
  let v := s.r8 r
  .next ((s.setR8 r (add8 v 1 false)).setFlags (incFlags s.main.f v 1 false))

/-- INC (HL) (R230). -/
def execIncHl (s : State) : Result := .next (s.incMem s.hl)

/-- INC (IX+d) or (IY+d) (R230). -/
def execIncXd (y : Idx) (d : Byte) (s : State) : Result := .next (s.incMem (s.indexed y d))

/-- NEG (R231): N is set, as for every subtraction (C6). -/
def execNeg (s : State) : Result :=
  .next ((s.setA (sub8 0 s.main.a false)).setFlags (subFlags s.main.f 0 s.main.a false))

/-- SCF (R234). -/
def execScf (s : State) : Result :=
  .next (s.setFlags { s.main.f with h := false, n := false, c := true })

/-- TST r (R236). -/
def execTstR (r : Reg8) (s : State) : Result := .next (s.testA (s.r8 r))

/-- TST n (R236). -/
def execTstN (n : Byte) (s : State) : Result := .next (s.testA n)

/-- TST (HL) (R236). -/
def execTstHl (s : State) : Result := .next (s.testA (s.readByte s.hl))

end Sys2Proof.Machine
end

