-- ==== Sys2Proof/Machine/Bit.lean ====
section
/-! DEFINITION. Bit test, reset and set (43_rotate_bit.md section 2). -/

namespace Sys2Proof.Machine

open Sys2Proof

/-- `v and not (1 << b)` (R292). -/
def resetBit (v : Byte) (b : BitVec 3) : Byte := v &&& ~~~BitVec.twoPow 8 b.toNat

/-- `v or (1 << b)` (R303). -/
def setBit (v : Byte) (b : BitVec 3) : Byte := v ||| BitVec.twoPow 8 b.toNat

/-- BIT b,r (R291). -/
def execBitR (b : BitVec 3) (r : Reg8) (s : State) : Result := .next (s.setFlags (bitFlags s.main.f (s.r8 r) b))

/-- BIT b,(HL) (R291). -/
def execBitHl (b : BitVec 3) (s : State) : Result := .next (s.setFlags (bitFlags s.main.f (s.readByte s.hl) b))

/-- BIT b,(IX+d) or (IY+d) (R291). -/
def execBitXd (b : BitVec 3) (y : Idx) (d : Byte) (s : State) : Result :=
  .next (s.setFlags (bitFlags s.main.f (s.readByte (s.indexed y d)) b))

/-- RES b,r (R292). -/
def execResR (b : BitVec 3) (r : Reg8) (s : State) : Result := .next (s.setR8 r (resetBit (s.r8 r) b))

/-- RES b,(HL) (R292): the write is made even when the bit was 0. -/
def execResHl (b : BitVec 3) (s : State) : Result :=
  .next (s.writeByte false s.hl (resetBit (s.readByte s.hl) b))

/-- RES b,(IX+d) or (IY+d) (R292). -/
def execResXd (b : BitVec 3) (y : Idx) (d : Byte) (s : State) : Result :=
  let la := s.indexed y d
  .next (s.writeByte false la (resetBit (s.readByte la) b))

/-- SET b,r (R303). -/
def execSetR (b : BitVec 3) (r : Reg8) (s : State) : Result := .next (s.setR8 r (setBit (s.r8 r) b))

/-- SET b,(HL) (R303). -/
def execSetHl (b : BitVec 3) (s : State) : Result :=
  .next (s.writeByte false s.hl (setBit (s.readByte s.hl) b))

/-- SET b,(IX+d) or (IY+d) (R303). -/
def execSetXd (b : BitVec 3) (y : Idx) (d : Byte) (s : State) : Result :=
  let la := s.indexed y d
  .next (s.writeByte false la (setBit (s.readByte la) b))

end Sys2Proof.Machine
end

