-- ==== Sys2Proof/Machine/Block.lean ====
section
/-! DEFINITION. Block transfer and block compare (45_block.md). -/

namespace Sys2Proof.Machine

open Sys2Proof

/-- The repeat of R360: back to the first byte of this two-byte instruction, or on. -/
def State.repeatIf (s : State) (again : Bool) : State :=
  if again then s.setPc (s.pc - 2) else s

/-- One iteration of LDI (`step` = 1) or LDD (`step` = -1) (R365, R367). -/
def State.moveByte (s : State) (step : Word) : State :=
  let bc := s.bc - 1
  let t := s.writeByte false s.de (s.readByte s.hl)
  (((t.setHl (s.hl + step)).setDe (s.de + step)).setBc bc).setFlags (moveFlags s.main.f bc)

/-- One iteration of CPI (`step` = 1) or CPD (`step` = -1) (R361, R363). -/
def State.searchByte (s : State) (step : Word) : State :=
  let bc := s.bc - 1
  ((s.setHl (s.hl + step)).setBc bc).setFlags (searchFlags s.main.f s.main.a (s.readByte s.hl) bc)

/-- CPD (R361). -/
def execCpd (s : State) : Result := .next (s.searchByte (-1))

/-- CPI (R363). -/
def execCpi (s : State) : Result := .next (s.searchByte 1)

/-- LDD (R365). -/
def execLdd (s : State) : Result := .next (s.moveByte (-1))

/-- LDI (R367). -/
def execLdi (s : State) : Result := .next (s.moveByte 1)

/-- CPDR: one iteration and the repeat (R362). -/
def execCpdr (s : State) : Result :=
  let t := s.searchByte (-1)
  .next (t.repeatIf ((t.bc != 0) && !t.main.f.z))

/-- CPIR: one iteration and the repeat (R364). -/
def execCpir (s : State) : Result :=
  let t := s.searchByte 1
  .next (t.repeatIf ((t.bc != 0) && !t.main.f.z))

/-- LDDR: one iteration and the repeat (R366). -/
def execLddr (s : State) : Result :=
  let t := s.moveByte (-1)
  .next (t.repeatIf (t.bc != 0))

/-- LDIR: one iteration and the repeat (R368). -/
def execLdir (s : State) : Result :=
  let t := s.moveByte 1
  .next (t.repeatIf (t.bc != 0))

end Sys2Proof.Machine
end

