-- ==== Sys2Proof/Machine/Control.lean ====
section
/-! DEFINITION. Jumps, calls and returns (44_control.md). PC holds `next` when a meaning starts (10_state.md R38); no flag changes. -/

namespace Sys2Proof.Machine

open Sys2Proof

/-- `PC <- (next + sext_16(e2)) mod 2^16` (R130, R336). -/
def State.jumpRelative (s : State) (e2 : Byte) : State := s.setPc (s.pc + e2.signExtend 16)

/-- CALL mn (R331). -/
def execCallMn (mn : Word) (s : State) : Result := .next (s.enter s.pc mn)

/-- CALL cc,mn (R332). -/
def execCallCcMn (cc : Cond) (mn : Word) (s : State) : Result :=
  if condHolds s.main.f cc then .next (s.enter s.pc mn) else .next s

/-- DJNZ e (R333): the new B is tested. -/
def execDjnz (e2 : Byte) (s : State) : Result :=
  let b := s.main.b - 1
  let t := s.setR8 .b b
  if b = 0 then .next t else .next (t.jumpRelative e2)

/-- JP mn (R334). -/
def execJpMn (mn : Word) (s : State) : Result := .next (s.setPc mn)

/-- JP (HL) (R334): no memory is read. -/
def execJpHl (s : State) : Result := .next (s.setPc s.hl)

/-- JP (IX) or JP (IY) (R334). -/
def execJpXy (y : Idx) (s : State) : Result := .next (s.setPc (s.idx y))

/-- JP cc,mn (R335). -/
def execJpCcMn (cc : Cond) (mn : Word) (s : State) : Result :=
  if condHolds s.main.f cc then .next (s.setPc mn) else .next s

/-- JR e (R336). -/
def execJr (e2 : Byte) (s : State) : Result := .next (s.jumpRelative e2)

/-- JR cc,e (R337). -/
def execJrCc (cc : CondJr) (e2 : Byte) (s : State) : Result :=
  if condJrHolds s.main.f cc then .next (s.jumpRelative e2) else .next s

/-- RET (R338). -/
def execRet (s : State) : Result := .next s.leave

/-- RET cc (R339): when not taken the stack is not read. -/
def execRetCc (cc : Cond) (s : State) : Result :=
  if condHolds s.main.f cc then .next s.leave else .next s

/-- RETI (R340): RET and the RETI signal (R544); IFF1 and IFF2 are left alone. -/
def execReti (s : State) : Result := .next s.leave.retiSignal

/-- RETN (R341): RET and `IFF1 <- IFF2` (D7). -/
def execRetn (s : State) : Result := .next { s.leave with iff1 := s.iff2 }

/-- RST v (R342). -/
def execRst (v : BitVec 3) (s : State) : Result := .next (s.enter s.pc (0#10 ++ v ++ 0#3))

end Sys2Proof.Machine
end

