-- ==== Sys2Proof/Machine/CpuControl.lean ====
section
/-! DEFINITION. CPU control (47_cpu_control.md). No flag changes. -/

namespace Sys2Proof.Machine

open Sys2Proof

/-- DI (R420). -/
def execDi (s : State) : Result := .next { s with iff1 := false, iff2 := false }

/-- EI (R421): no shadow follows. -/
def execEi (s : State) : Result := .next { s with iff1 := true, iff2 := true }

/-- HALT (R422). -/
def execHalt (s : State) : Result := .next { s with runState := .halt }

/-- IM 0 (R423). -/
def execIm0 (s : State) : Result := .next { s with im := .im0 }

/-- IM 1 (R423). -/
def execIm1 (s : State) : Result := .next { s with im := .im1 }

/-- IM 2 (R423). -/
def execIm2 (s : State) : Result := .next { s with im := .im2 }

/-- NOP (R424). -/
def execNop (s : State) : Result := .next s

/-- SLP (R425). The request as it stands is what a later edge is seen against (log 32). -/
def execSlp (s : State) : Result := .next { s with runState := .sleep, reqSeen := s.intReq }

end Sys2Proof.Machine
end

