-- ==== Sys2Proof/Machine/Io.lean ====
section
/-! DEFINITION. Input and output (46_io.md). A byte read is `State.portValue` of the state before; `State.portRead` is the transaction. -/

namespace Sys2Proof.Machine

open Sys2Proof

/-- The port `{B, C}` (R90, R380). -/
def State.portBc (s : State) : Word := s.bc

/-- The port `{0x00, C}` (R380 item 6, C8). -/
def State.portC (s : State) : Word := page0 s.main.c

/-- One iteration of INI (`step` = 1) or IND (`step` = -1): the old B forms the port (R384, R386, D35). -/
def State.inputByte (s : State) (step : Word) : State :=
  let b := s.main.b - 1
  let t := (s.portRead s.portBc).writeByte false s.hl s.portValue
  ((t.setR8 .b b).setHl (s.hl + step)).setFlags (blockIoFlags s.main.f b)

/-- One iteration of OUTD (R397). -/
def State.outputDown (s : State) : State :=
  let b := s.main.b - 1
  let t := s.portWrite s.portBc (s.readByte s.hl)
  ((t.setR8 .b b).setHl (s.hl - 1)).setFlags (blockIoFlags s.main.f b)

/-- One iteration of OUTI, whose flags are not those of OUTD (R398, C17; log 35). -/
def State.outputUp (s : State) : State :=
  let b := s.main.b - 1
  let t := s.portWrite s.portBc (s.readByte s.hl)
  ((t.setR8 .b b).setHl (s.hl + 1)).setFlags (outiFlags s.main.f b)

/-- One iteration of OTIM (`step` = 1) or OTDM (`step` = -1): C and HL step together, the old C is the port (R388, R391). -/
def State.outputMultiple (s : State) (step : Byte) : State :=
  let m := s.readByte s.hl
  let t := s.portWrite s.portC m
  (((t.setR8 .b (s.main.b - 1)).setR8 .c (s.main.c + step)).setHl (s.hl + step.signExtend 16)).setFlags
    (otimFlags s.main.f s.main.b m)

/-- Again while the new B is not 0 (R380 item 5, R360). -/
def State.repeatB (s : State) : State :=
  if s.main.b = 0 then s else s.setPc (s.pc - 2)

/-- IN A,(n) (R381): the old A is the upper port byte; no flag changes. -/
def execInAN (n : Byte) (s : State) : Result :=
  .next ((s.portRead (s.main.a ++ n)).setA s.portValue)

/-- IN r,(C) (R382). -/
def execInRC (r : Reg8) (s : State) : Result :=
  .next (((s.portRead s.portBc).setR8 r s.portValue).setFlags (inFlags s.main.f s.portValue))

/-- IN0 r,(n) (R383). -/
def execIn0RN (r : Reg8) (n : Byte) (s : State) : Result :=
  .next (((s.portRead (page0 n)).setR8 r s.portValue).setFlags (inFlags s.main.f s.portValue))

/-- OUT (n),A (R394). -/
def execOutNA (n : Byte) (s : State) : Result := .next (s.portWrite (s.main.a ++ n) s.main.a)

/-- OUT (C),r (R395). -/
def execOutCR (r : Reg8) (s : State) : Result := .next (s.portWrite s.portBc (s.r8 r))

/-- OUT0 (n),r (R396). -/
def execOut0NR (n : Byte) (r : Reg8) (s : State) : Result := .next (s.portWrite (page0 n) (s.r8 r))

/-- TSTIO n (R399): no register is written. -/
def execTstioN (n : Byte) (s : State) : Result :=
  .next ((s.portRead s.portC).setFlags (logicFlags s.main.f (s.portValue &&& n) true))

/-- IND (R384). -/
def execInd (s : State) : Result := .next (s.inputByte (-1))

/-- INI (R386). -/
def execIni (s : State) : Result := .next (s.inputByte 1)

/-- OUTD (R397). -/
def execOutd (s : State) : Result := .next s.outputDown

/-- OUTI (R398). -/
def execOuti (s : State) : Result := .next s.outputUp

/-- OTDM (R388). -/
def execOtdm (s : State) : Result := .next (s.outputMultiple (-1))

/-- OTIM (R391). -/
def execOtim (s : State) : Result := .next (s.outputMultiple 1)

/-- INDR: one iteration and the repeat (R385). -/
def execIndr (s : State) : Result := .next (s.inputByte (-1)).repeatB

/-- INIR: one iteration and the repeat (R387). -/
def execInir (s : State) : Result := .next (s.inputByte 1).repeatB

/-- OTDR: one iteration and the repeat (R390). -/
def execOtdr (s : State) : Result := .next s.outputDown.repeatB

/-- OTIR: one iteration and the repeat (R393). -/
def execOtir (s : State) : Result := .next s.outputUp.repeatB

/-- OTDMR: one iteration and the repeat (R389). -/
def execOtdmr (s : State) : Result := .next (s.outputMultiple (-1)).repeatB

/-- OTIMR: one iteration and the repeat (R392). -/
def execOtimr (s : State) : Result := .next (s.outputMultiple 1).repeatB

end Sys2Proof.Machine
end

