-- ==== Sys2Proof/Machine/Load16.lean ====
section
/-! DEFINITION. The 16-bit loads, the stack and the exchanges (40_load_exchange.md sections 3 to 5). -/

namespace Sys2Proof.Machine

open Sys2Proof

/-- LD (mn),HL (R176). -/
def execLdMnHl (mn : Word) (s : State) : Result := .next (s.writeWord false mn s.hl)

/-- LD (mn),ss (R176). -/
def execLdMnSs (mn : Word) (ss : RegSs) (s : State) : Result := .next (s.writeWord false mn (s.rp ss))

/-- LD (mn),IX or LD (mn),IY (R176). -/
def execLdMnXy (mn : Word) (y : Idx) (s : State) : Result := .next (s.writeWord false mn (s.idx y))

/-- LD dd,mn (R178). -/
def execLdDdMn (dd : RegSs) (mn : Word) (s : State) : Result := .next (s.setRp dd mn)

/-- LD IX,mn or LD IY,mn (R178). -/
def execLdXyMn (y : Idx) (mn : Word) (s : State) : Result := .next (s.setIdx y mn)

/-- LD HL,(mn) (R179). -/
def execLdHlFromMn (mn : Word) (s : State) : Result := .next (s.setHl (s.readWord mn))

/-- LD dd,(mn) (R179). -/
def execLdDdFromMn (dd : RegSs) (mn : Word) (s : State) : Result := .next (s.setRp dd (s.readWord mn))

/-- LD IX,(mn) or LD IY,(mn) (R179). -/
def execLdXyFromMn (y : Idx) (mn : Word) (s : State) : Result := .next (s.setIdx y (s.readWord mn))

/-- LD SP,HL (R181). -/
def execLdSpHl (s : State) : Result := .next (s.setSp s.hl)

/-- LD SP,IX or LD SP,IY (R181). -/
def execLdSpXy (y : Idx) (s : State) : Result := .next (s.setSp (s.idx y))

/-- POP tt (R182). -/
def execPopTt (tt : RegTt) (s : State) : Result := .next (s.dropWord.setRpTt tt s.top)

/-- POP IX or POP IY (R182). -/
def execPopXy (y : Idx) (s : State) : Result := .next (s.dropWord.setIdx y s.top)

/-- PUSH tt (R183). -/
def execPushTt (tt : RegTt) (s : State) : Result := .next (s.push16 (s.rpTt tt))

/-- PUSH IX or PUSH IY (R183). -/
def execPushXy (y : Idx) (s : State) : Result := .next (s.push16 (s.idx y))

/-- EX (SP),HL (R184): both reads first, then two stack writes (D29). -/
def execExSpHl (s : State) : Result := .next ((s.writeWord true s.sp s.hl).setHl s.top)

/-- EX (SP),IX or EX (SP),IY (R184). -/
def execExSpXy (y : Idx) (s : State) : Result := .next ((s.writeWord true s.sp (s.idx y)).setIdx y s.top)

/-- EX AF,AF' (R185). -/
def execExAfAf (s : State) : Result :=
  .next { s with
    main := { s.main with a := s.alt.a, f := s.alt.f }
    alt := { s.alt with a := s.main.a, f := s.main.f } }

/-- EX DE,HL (R186). -/
def execExDeHl (s : State) : Result :=
  .next { s with main := { s.main with d := s.main.h, e := s.main.l, h := s.main.d, l := s.main.e } }

/-- EXX (R187). -/
def execExx (s : State) : Result :=
  .next { s with
    main := { s.alt with a := s.main.a, f := s.main.f }
    alt := { s.main with a := s.alt.a, f := s.alt.f } }

end Sys2Proof.Machine
end

