-- ==== Sys2Proof/Machine/Load8.lean ====
section
/-! DEFINITION. The 8-bit loads (40_load_exchange.md section 2). -/

namespace Sys2Proof.Machine

open Sys2Proof

/-- LD A,(mn) (R171). -/
def execLdAMn (mn : Word) (s : State) : Result := .next (s.setA (s.readByte mn))

/-- LD A,(BC) (R171). -/
def execLdABc (s : State) : Result := .next (s.setA (s.readByte s.bc))

/-- LD A,(DE) (R171). -/
def execLdADe (s : State) : Result := .next (s.setA (s.readByte s.de))

/-- LD A,I (R172). -/
def execLdAI (s : State) : Result :=
  .next ((s.setA s.i).setFlags (loadSpecialFlags s.main.f s.i s.iff2))

/-- LD A,R (R172). -/
def execLdAR (s : State) : Result :=
  .next ((s.setA s.r).setFlags (loadSpecialFlags s.main.f s.r s.iff2))

/-- LD (mn),A (R173). -/
def execLdMnA (mn : Word) (s : State) : Result := .next (s.writeByte false mn s.main.a)

/-- LD (BC),A (R173). -/
def execLdBcA (s : State) : Result := .next (s.writeByte false s.bc s.main.a)

/-- LD (DE),A (R173). -/
def execLdDeA (s : State) : Result := .next (s.writeByte false s.de s.main.a)

/-- LD (HL),n (R174). -/
def execLdHlN (n : Byte) (s : State) : Result := .next (s.writeByte false s.hl n)

/-- LD (IX+d),n or LD (IY+d),n (R174). -/
def execLdXdN (y : Idx) (d n : Byte) (s : State) : Result := .next (s.writeByte false (s.indexed y d) n)

/-- LD (HL),r (R175). -/
def execLdHlR (r : Reg8) (s : State) : Result := .next (s.writeByte false s.hl (s.r8 r))

/-- LD (IX+d),r or LD (IY+d),r (R175). -/
def execLdXdR (y : Idx) (d : Byte) (r : Reg8) (s : State) : Result :=
  .next (s.writeByte false (s.indexed y d) (s.r8 r))

/-- LD rd,rs (R177). -/
def execLdRR (rd rs : Reg8) (s : State) : Result := .next (s.setR8 rd (s.r8 rs))

/-- LD r,n (R177). -/
def execLdRN (r : Reg8) (n : Byte) (s : State) : Result := .next (s.setR8 r n)

/-- LD r,(HL) (R177). -/
def execLdRHl (r : Reg8) (s : State) : Result := .next (s.setR8 r (s.readByte s.hl))

/-- LD r,(IX+d) or LD r,(IY+d) (R177). -/
def execLdRXd (r : Reg8) (y : Idx) (d : Byte) (s : State) : Result :=
  .next (s.setR8 r (s.readByte (s.indexed y d)))

/-- LD I,A (R180). -/
def execLdIA (s : State) : Result := .next { s with i := s.main.a }

/-- LD R,A (R180). -/
def execLdRA (s : State) : Result := .next { s with r := s.main.a }

end Sys2Proof.Machine
end

