-- ==== Sys2Proof/Machine/Rti.lean ====
section
/-! DEFINITION. The Real-Time Interrupt generator by itself (60_exceptions.md R580, R581): free-running, synchronised to `ref_clock`, or
passing the edges of `ref_clock` through. What the spec leaves open about it is in logs 40 and 41. -/

namespace Sys2Proof.Machine

open Sys2Proof

/-- The free-running period in clocks; 0 means no pulses (R580). -/
def rtiPeriod (dflt : BitVec 24) : Nat :=
  if dflt = 0 then 0 else max 1024 dflt.toNat

/-- `ref_clock` is lost: two successive edges are missed (R581, C15, C24). -/
def RtiGen.lost (g : RtiGen) : Bool := g.edges == 2 && decide (2 * g.period < g.since)

/-- Bit 3 of the status: a continuous `ref_clock` (R566). -/
def RtiGen.continuous (g : RtiGen) : Bool := g.edges == 2 && !g.lost

/-- The pin `rti_synced` and bit 2 of the status: synchronisation achieved and fewer than three edges missed since (R566, R581, C15). -/
def RtiGen.synchronised (g : RtiGen) : Bool := g.synced && decide (g.since ≤ 3 * g.period)

/-- Whether the filtered edges are the pulses: divisor 1 in the synchronised mode, whether or not `ref_clock` goes on (R581). While the
generator runs freely divisor 1 changes nothing until an edge selects that mode (R580); a DESIGN CHOICE (log 40). -/
def RtiGen.passes (g : RtiGen) (divisor : Nat) : Bool := g.follows && divisor == 1

/-- Whether the intervals are those of the divider: synchronised mode, a divisor above 1, and `ref_clock` not lost (R581, C24). -/
def RtiGen.divides (g : RtiGen) (divisor : Nat) : Bool := g.follows && decide (2 ≤ divisor) && !g.lost

/-- Whether the generator runs freely, from `rti_default` (R580, R581). -/
def RtiGen.freeRuns (g : RtiGen) (divisor : Nat) : Bool := !g.passes divisor && !g.divides divisor

/-- The last interval of a frame as the phase-locked loop changes it, never below the minimum of 1024 (R580, R581). -/
def PhaseAdjust.apply (a : PhaseAdjust) (clocks : Nat) : Nat :=
  match a with
  | .shorter => max 1024 (clocks - 1)
  | .exact => clocks
  | .longer => clocks + 1

/-- An interval of so many clocks as the 24-bit counter takes it: as it is if it fits, and otherwise a free value of at least 1024, because
R581 gives such an interval no length (log 40). -/
def RtiGen.fit (g : RtiGen) (clocks : Nat) : Nat :=
  if clocks < 2 ^ 24 then clocks else max 1024 (Config.freeInterval g.draw g.since clocks).val

/-- `N div RTI_DIVISOR`, forced to 1024 where it is less (R581). -/
def RtiGen.dividedInterval (g : RtiGen) (clocks divisor : Nat) : Nat := max 1024 (g.fit (clocks / divisor))

/-- The counter takes the next interval of the frame, or the first of a new frame made from the last results: the first `R` intervals of
a frame are one clock longer (R581). -/
def RtiGen.nextInterval (g : RtiGen) : RtiGen :=
  let h := if g.left = 0 then { g with base := g.quotient, left := g.pulses, long := g.remainder } else g
  let clocks := if h.long = 0 then h.base else h.base + 1
  { h with
    elapsed := 0
    count := h.fit (if h.left = 1 then h.adjust.apply clocks else clocks)
    left := h.left - 1
    long := h.long - 1
    adjust := if h.left = 1 then .exact else h.adjust }

/-- What the counter is loaded with at a pulse: the next interval of the divider, or `rti_default`, sampled now (R580, R581). A lost
`ref_clock` ends the synchronised mode here. -/
def RtiGen.reload (g : RtiGen) (dflt : BitVec 24) (divisor : Nat) : RtiGen :=
  if g.divides divisor then g.nextInterval
  else { g with count := rtiPeriod dflt, elapsed := 0, follows := false, left := 0, adjust := .exact }

/-- So many clocks of the two clocks-since counters. -/
def RtiGen.age (g : RtiGen) (n : Nat) : RtiGen := { g with since := g.since + n, elapsed := g.elapsed + n }

/-- `n` clocks of the down counter, and how many pulses they bring. `fuel` bounds the pulses: each interval loaded has at least 1024
clocks. -/
def RtiGen.elapse (dflt : BitVec 24) (divisor : Nat) : (fuel n : Nat) → RtiGen → Nat × RtiGen
  | 0, n, g => (0, g.age n)
  | fuel + 1, n, g =>
    if g.count = 0 ∨ n < g.count then (0, { g.age n with count := g.count - n })
    else
      let rest := RtiGen.elapse dflt divisor fuel (n - g.count) ((g.age g.count).reload dflt divisor)
      (rest.1 + 1, rest.2)

/-- `n` clocks without an edge of `ref_clock` (R580, R581). While edges are passed through the counter stands still; a stopped one starts
from `rti_default`. -/
def RtiGen.run (g : RtiGen) (dflt : BitVec 24) (divisor n : Nat) : Nat × RtiGen :=
  if g.passes divisor then (0, g.age n)
  else
    let h := if g.count = 0 then { g with count := rtiPeriod dflt, elapsed := 0 } else g
    h.elapse dflt divisor (n / 1024 + 2) n

/-- The frame of the new period of `ref_clock`, at an edge in the synchronised mode (R581): it uses the new results, and begins at the
pulse nearest the edge. If that is the last pulse, the interval in progress is its first one and takes that length; if it is the next
pulse, the frame in progress ends there. The phase-locked loop adds a clock to the last interval of the new frame if that pulse is more
than one clock early, and takes one away if it is more than one clock late. Which pulse begins the frame, and that an edge changes the
last interval of the frame that it begins and never one in progress, is a DESIGN CHOICE (log 40). -/
def RtiGen.align (g : RtiGen) : RtiGen :=
  if g.elapsed ≤ g.count then
    let h := { g with left := 0, adjust := if g.elapsed ≤ 1 then .exact else .longer }.nextInterval
    { h with count := max 1 (h.count - g.elapsed), elapsed := g.elapsed }
  else { g with left := 0, adjust := if g.count ≤ 1 then .exact else .shorter }

/-- A recognised rising edge of `ref_clock` (R581). The first one, or the first after a loss, starts a measurement. The next ones end
it: the results are calculated, and the synchronised mode is selected or its phase adjusted. That synchronisation counts as achieved at
the very edge that selects the mode with a divisor above 1 is a DESIGN CHOICE (log 40). `draw` names the free values. -/
def RtiGen.edge (g : RtiGen) (divisor draw : Nat) : RtiGen :=
  if g.edges = 0 ∨ g.lost then
    { g with edges := 1, since := 0, follows := g.passes divisor, synced := g.synchronised, left := 0, adjust := .exact }
  else
    let h := { g with edges := 2, since := 0, period := g.since, draw := draw }
    if divisor = 0 then h
    else
      let r := { h with
        quotient := h.dividedInterval g.since divisor
        remainder := g.since % divisor
        pulses := divisor
        tooShort := decide (g.since / divisor < 1024) }
      if divisor = 1 then { r with follows := true }
      else if g.follows then r.align
      else { r with follows := true, synced := true, left := 0, adjust := .exact }.nextInterval

/-- The clocks for which a new level of `ref_clock` must stand to pass the digital filter (R581). -/
def filterClocks : Nat := 11

/-- New pin levels (R581). The filter starts again at each change of level. Divisor 0 ends the synchronised mode at
once, and the divisors 0 and 1 end the synchronisation; from pass-through to a divisor above 1 the mode is selected anew. A new
divisor 1 does not select the mode of a generator that runs freely. The counter is not touched: free-running resumes from where it
stands. These are DESIGN CHOICES (log 40) but for the end at divisor 0. -/
def RtiGen.repin (g : RtiGen) (oldClock newClock : Bool) (oldDivisor newDivisor : Nat) : RtiGen :=
  { g with
    held := if newClock = oldClock then g.held else 0
    follows := g.follows && (newDivisor == 1 || (decide (2 ≤ newDivisor) && decide (2 ≤ oldDivisor)))
    synced := g.synced && decide (2 ≤ newDivisor) }

end Sys2Proof.Machine
end

