-- ==== Sys2Proof/Machine/Mpu.lean ====
section
/-! DEFINITION. The MPU instructions (48_mpu.md). -/

namespace Sys2Proof.Machine

open Sys2Proof

/-- What the CPU variant does with one of the nine MPU instructions: the Illegal Instruction (2nd byte) trap (R440 (a), R141, D10).
PC is two past the prefix byte. The decoder rejects them there already (log 31). -/
def State.absentModule (s : State) : State := s.illegal2Trap (s.pc - 2)

/-- Sixteen memory writes at HL, HL + 1, and so on, each checked on its own (R441, D38). -/
def State.storeBlock (s : State) : List Byte → State
  | [] => s
  | v :: vs => State.storeBlock ((s.writeByte false s.hl v).setHl (s.hl + 1)) vs

/-- The byte LDM reads for entry `k`: the translation in force does not change meanwhile (R442). -/
def State.blockByte (s : State) (k : Fin 16) : Byte := s.readByte (s.hl + BitVec.ofNat 16 k.val)

/-- The buffer after a load of its sixteen low bytes from memory at HL (R442, R443). -/
def State.loadLow (s : State) : Vector Word 16 :=
  Vector.ofFn (fun k => high s.mmu.buffer[k] ++ s.blockByte k)

/-- The buffer after a load of its sixteen high bytes from memory at HL (R442). -/
def State.loadHigh (s : State) : Vector Word 16 :=
  Vector.ofFn (fun k => s.blockByte k ++ low s.mmu.buffer[k])

/-- The end of a block instruction: HL has moved 16 on, and the next boundary is not sampled (R440 (d), R48). -/
def State.endBlock (s : State) (hl : Word) : State := { s.setHl (hl + 16) with noSample := true }

/-- LDM (HL),MMU (R441). -/
def execLdmHlMmu (s : State) : Result :=
  if s.isMpu then .next { s.storeBlock (s.mmu.buffer.toList.map low) with noSample := true }
  else .next s.absentModule

/-- LDM (HL),MMUH (R441). -/
def execLdmHlMmuh (s : State) : Result :=
  if s.isMpu then .next { s.storeBlock (s.mmu.buffer.toList.map high) with noSample := true }
  else .next s.absentModule

/-- LDM MMU,(HL) (R442). -/
def execLdmMmuHl (s : State) : Result :=
  if s.isMpu then .next ({ s with mmu := { s.mmu with buffer := s.loadLow } }.endBlock s.hl)
  else .next s.absentModule

/-- LDM MMUH,(HL) (R442). -/
def execLdmMmuhHl (s : State) : Result :=
  if s.isMpu then .next ({ s with mmu := { s.mmu with buffer := s.loadHigh } }.endBlock s.hl)
  else .next s.absentModule

/-- LDMS MMU,(HL) (R443): the reads go through the old context, then the two sets change places (D26). -/
def execLdmsMmuHl (s : State) : Result :=
  if s.isMpu then .next ({ s with mmu := { active := s.loadLow, buffer := s.mmu.active } }.endBlock s.hl)
  else .next s.absentModule

/-- SWAP (R444): NOSAMPLE is not set (D25). -/
def execSwap (s : State) : Result :=
  if s.isMpu then .next { s with mmu := { active := s.mmu.buffer, buffer := s.mmu.active } }
  else .next s.absentModule

/-- The clocks the Arm Timer runs (R445, R577). -/
def armClocks : Nat := 256

/-- WDARM (R445): ignored while the Arm Timer runs. -/
def execWdarm (s : State) : Result :=
  if s.isMpu then
    if s.wdt.arm = 0 then .next { s with wdt := { s.wdt with arm := armClocks } } else .next s
  else .next s.absentModule

/-- WDRES (R446): nothing unless armed; the first effective one enables the timer (D27). -/
def execWdres (s : State) : Result :=
  if s.isMpu then
    if s.wdt.arm = 0 then .next s
    else .next { s with wdt := { s.wdt with enabled := true, count := 0, limit := s.pins.wdtLim } }
  else .next s.absentModule

/-- The Reset Status byte (R561). -/
def State.resetStatus (s : State) : Byte :=
  BitVec.ofBool s.sys.rstFatal ++ BitVec.ofBool s.sys.rstFault ++ BitVec.ofBool s.sys.rstWdt ++ BitVec.ofBool s.sys.rstPwron ++
    BitVec.ofBool (s.pins.resetBus.getLsbD 1) ++ BitVec.ofBool s.sys.rb1Trans ++
    BitVec.ofBool (s.pins.resetBus.getLsbD 0) ++ BitVec.ofBool s.sys.rb0Trans

/-- The Trap Status byte (R562). -/
def State.trapStatus (s : State) : Byte :=
  0#4 ++ BitVec.ofBool s.sys.trapWp ++ BitVec.ofBool s.sys.trapXp ++ BitVec.ofBool s.sys.trapI3 ++ BitVec.ofBool s.sys.trapI2

/-- The RTI Generator Status byte (R566; logs 40, 41): `ref_clock`, a divider forced to 1024, a continuous `ref_clock`, synchronised,
`rti_default` below its minimum (a free value at 0), and `rti_default` in use. -/
def State.rtiStatus (s : State) : Byte :=
  let d := s.pins.rtiDivisor.toNat
  let dflt := s.pins.rtiDefault
  let short := if dflt = 0 then Config.freeBit s.fresh .rtiDefaultZero else decide (dflt.toNat < 1024)
  0#2 ++ BitVec.ofBool s.pins.refClock ++ BitVec.ofBool s.rti.tooShort ++ BitVec.ofBool s.rti.continuous ++
    BitVec.ofBool s.rti.synchronised ++ BitVec.ofBool short ++ BitVec.ofBool (dflt != 0 && s.rti.freeRuns d)

/-- The System Status Block, offset 0 first (R560 to R567). -/
def State.statusBlock (s : State) : List Byte :=
  [s.resetStatus, s.trapStatus, low s.sys.trapLa, high s.sys.trapLa, low s.sys.trapPa, high s.sys.trapPa,
    low s.sys.faultLa, high s.sys.faultLa, low s.sys.faultPa, high s.sys.faultPa, 0x00, 0x00,
    s.sys.drqTo, s.sys.waitTo, s.rtiStatus, s.pins.extStat]

/-- The byte written at an offset: offsets 1 to 5 are free after an inhibited write of the same instruction (R447, UD7; log 15). -/
def statusByte (draw offset : Nat) (inhibited : Bool) (v : Byte) : Byte :=
  if inhibited ∧ 1 ≤ offset ∧ offset ≤ 5 then Config.freeByte draw (.sysByte offset) else v

/-- The sixteen writes of LDM (HL),SYS (R447): `offset` of the next byte, and whether a write of this instruction was inhibited. -/
def State.storeStatus (s : State) (draw offset : Nat) (inhibited : Bool) : List Byte → State
  | [] => s
  | v :: vs =>
    let t := (s.writeByte false s.hl (statusByte draw offset inhibited v)).setHl (s.hl + 1)
    State.storeStatus t draw (offset + 1) (inhibited || s.wrInh (s.translate s.hl)) vs

/-- Whether one of the sixteen writes at HL is inhibited. -/
def State.blockInhibited (s : State) : Bool :=
  (List.range 16).any (fun k => s.wrInh (s.translate (s.hl + BitVec.ofNat 16 k)))

/-- The clearing by the read (R569); TRAP_WP is free after an inhibited write of the same instruction (UD7). -/
def SysStatus.afterRead (y : SysStatus) (trapWp : Bool) : SysStatus :=
  { y with
    rstFatal := false
    rstFault := false
    rstWdt := false
    rstPwron := false
    rb1Trans := false
    rb0Trans := false
    trapWp := trapWp
    trapXp := false
    trapI3 := false
    trapI2 := false
    drqTo := 0
    waitTo := 0 }

/-- LDM (HL),SYS (R447). -/
def execLdmHlSys (s : State) : Result :=
  if s.isMpu then
    let t := s.storeStatus s.fresh 0 false s.statusBlock
    let wp := s.blockInhibited && Config.freeBit s.fresh .sysTrapWp
    .next ({ t with sys := t.sys.afterRead wp, noSample := true, fresh := s.fresh + 1 }.emit .extStatRd)
  else .next s.absentModule

end Sys2Proof.Machine
end

