-- ==== Sys2Proof/Machine/Rotate.lean ====
section
/-! DEFINITION. The rotates, shifts and digit rotates (43_rotate_bit.md sections 3 to 5). -/

namespace Sys2Proof.Machine

open Sys2Proof

/-- A rotate or shift of a register (`rmw` of R290). -/
def State.rotReg (s : State) (k : RotKind) (r : Reg8) : State :=
  let v := s.r8 r
  let res := rotResult k v s.main.f.c
  (s.setR8 r res).setFlags (rotFlags s.main.f res (rotCarry k v))

/-- A rotate or shift of a memory byte: one read, one write at the same address (`rmw` of R290). -/
def State.rotMem (s : State) (k : RotKind) (la : Word) : State :=
  let v := s.readByte la
  let res := rotResult k v s.main.f.c
  (s.writeByte false la res).setFlags (rotFlags s.main.f res (rotCarry k v))

/-- A rotate of A by one of the four one-byte instructions (section 4). -/
def State.rotAcc (s : State) (k : RotKind) : State :=
  (s.setA (rotResult k s.main.a s.main.f.c)).setFlags (accRotFlags s.main.f (rotCarry k s.main.a))

/-- RL r (R293). -/
def execRlR (r : Reg8) (s : State) : Result := .next (s.rotReg .rl r)

/-- RL (HL) (R293). -/
def execRlHl (s : State) : Result := .next (s.rotMem .rl s.hl)

/-- RL (IX+d) or (IY+d) (R293). -/
def execRlXd (y : Idx) (d : Byte) (s : State) : Result := .next (s.rotMem .rl (s.indexed y d))

/-- RLC r (R295). -/
def execRlcR (r : Reg8) (s : State) : Result := .next (s.rotReg .rlc r)

/-- RLC (HL) (R295). -/
def execRlcHl (s : State) : Result := .next (s.rotMem .rlc s.hl)

/-- RLC (IX+d) or (IY+d) (R295). -/
def execRlcXd (y : Idx) (d : Byte) (s : State) : Result := .next (s.rotMem .rlc (s.indexed y d))

/-- RR r (R298). -/
def execRrR (r : Reg8) (s : State) : Result := .next (s.rotReg .rr r)

/-- RR (HL) (R298). -/
def execRrHl (s : State) : Result := .next (s.rotMem .rr s.hl)

/-- RR (IX+d) or (IY+d) (R298). -/
def execRrXd (y : Idx) (d : Byte) (s : State) : Result := .next (s.rotMem .rr (s.indexed y d))

/-- RRC r (R300). -/
def execRrcR (r : Reg8) (s : State) : Result := .next (s.rotReg .rrc r)

/-- RRC (HL) (R300). -/
def execRrcHl (s : State) : Result := .next (s.rotMem .rrc s.hl)

/-- RRC (IX+d) or (IY+d) (R300). -/
def execRrcXd (y : Idx) (d : Byte) (s : State) : Result := .next (s.rotMem .rrc (s.indexed y d))

/-- SLA r (R304). -/
def execSlaR (r : Reg8) (s : State) : Result := .next (s.rotReg .sla r)

/-- SLA (HL) (R304). -/
def execSlaHl (s : State) : Result := .next (s.rotMem .sla s.hl)

/-- SLA (IX+d) or (IY+d) (R304). -/
def execSlaXd (y : Idx) (d : Byte) (s : State) : Result := .next (s.rotMem .sla (s.indexed y d))

/-- SRA r (R305). -/
def execSraR (r : Reg8) (s : State) : Result := .next (s.rotReg .sra r)

/-- SRA (HL) (R305). -/
def execSraHl (s : State) : Result := .next (s.rotMem .sra s.hl)

/-- SRA (IX+d) or (IY+d) (R305). -/
def execSraXd (y : Idx) (d : Byte) (s : State) : Result := .next (s.rotMem .sra (s.indexed y d))

/-- SRL r (R306). -/
def execSrlR (r : Reg8) (s : State) : Result := .next (s.rotReg .srl r)

/-- SRL (HL) (R306). -/
def execSrlHl (s : State) : Result := .next (s.rotMem .srl s.hl)

/-- SRL (IX+d) or (IY+d) (R306). -/
def execSrlXd (y : Idx) (d : Byte) (s : State) : Result := .next (s.rotMem .srl (s.indexed y d))

/-- RLA (R294). -/
def execRla (s : State) : Result := .next (s.rotAcc .rl)

/-- RLCA (R296). -/
def execRlca (s : State) : Result := .next (s.rotAcc .rlc)

/-- RRA (R299). -/
def execRra (s : State) : Result := .next (s.rotAcc .rr)

/-- RRCA (R301). -/
def execRrca (s : State) : Result := .next (s.rotAcc .rrc)

/-- RLD (R297). -/
def execRld (s : State) : Result :=
  let m := s.readByte s.hl
  let a := s.main.a
  let a' : Byte := a.extractLsb' 4 4 ++ m.extractLsb' 4 4
  let m' : Byte := m.extractLsb' 0 4 ++ a.extractLsb' 0 4
  .next (((s.setA a').writeByte false s.hl m').setFlags (inFlags s.main.f a'))

/-- RRD (R302). -/
def execRrd (s : State) : Result :=
  let m := s.readByte s.hl
  let a := s.main.a
  let a' : Byte := a.extractLsb' 4 4 ++ m.extractLsb' 0 4
  let m' : Byte := a.extractLsb' 0 4 ++ m.extractLsb' 4 4
  .next (((s.setA a').writeByte false s.hl m').setFlags (inFlags s.main.f a'))

end Sys2Proof.Machine
end

