-- ==== Sys2Proof/Machine/Dispatch.lean ====
section
/-! DEFINITION. The dispatch: one arm per constructor, one meaning per arm. -/

namespace Sys2Proof.Machine

open Sys2Proof

-- What an instruction does, in a state whose PC is already `next` (10_state.md R38).
def exec (i : Instr) (s : State) : Host.Outcome State Fault Refusal :=
  match i with
  | .addAR r => Sys2Proof.Machine.execAddAR r s
  | .addAN n => Sys2Proof.Machine.execAddAN n s
  | .addAHl => Sys2Proof.Machine.execAddAHl s
  | .addAXd y d => Sys2Proof.Machine.execAddAXd y d s
  | .adcAR r => Sys2Proof.Machine.execAdcAR r s
  | .adcAN n => Sys2Proof.Machine.execAdcAN n s
  | .adcAHl => Sys2Proof.Machine.execAdcAHl s
  | .adcAXd y d => Sys2Proof.Machine.execAdcAXd y d s
  | .subAR r => Sys2Proof.Machine.execSubAR r s
  | .subAN n => Sys2Proof.Machine.execSubAN n s
  | .subAHl => Sys2Proof.Machine.execSubAHl s
  | .subAXd y d => Sys2Proof.Machine.execSubAXd y d s
  | .sbcAR r => Sys2Proof.Machine.execSbcAR r s
  | .sbcAN n => Sys2Proof.Machine.execSbcAN n s
  | .sbcAHl => Sys2Proof.Machine.execSbcAHl s
  | .sbcAXd y d => Sys2Proof.Machine.execSbcAXd y d s
  | .andAR r => Sys2Proof.Machine.execAndAR r s
  | .andAN n => Sys2Proof.Machine.execAndAN n s
  | .andAHl => Sys2Proof.Machine.execAndAHl s
  | .andAXd y d => Sys2Proof.Machine.execAndAXd y d s
  | .xorAR r => Sys2Proof.Machine.execXorAR r s
  | .xorAN n => Sys2Proof.Machine.execXorAN n s
  | .xorAHl => Sys2Proof.Machine.execXorAHl s
  | .xorAXd y d => Sys2Proof.Machine.execXorAXd y d s
  | .orAR r => Sys2Proof.Machine.execOrAR r s
  | .orAN n => Sys2Proof.Machine.execOrAN n s
  | .orAHl => Sys2Proof.Machine.execOrAHl s
  | .orAXd y d => Sys2Proof.Machine.execOrAXd y d s
  | .cpAR r => Sys2Proof.Machine.execCpAR r s
  | .cpAN n => Sys2Proof.Machine.execCpAN n s
  | .cpAHl => Sys2Proof.Machine.execCpAHl s
  | .cpAXd y d => Sys2Proof.Machine.execCpAXd y d s
  | .ccf => Sys2Proof.Machine.execCcf s
  | .cpl => Sys2Proof.Machine.execCpl s
  | .daa => Sys2Proof.Machine.execDaa s
  | .decR r => Sys2Proof.Machine.execDecR r s
  | .decHl => Sys2Proof.Machine.execDecHl s
  | .decXd y d => Sys2Proof.Machine.execDecXd y d s
  | .incR r => Sys2Proof.Machine.execIncR r s
  | .incHl => Sys2Proof.Machine.execIncHl s
  | .incXd y d => Sys2Proof.Machine.execIncXd y d s
  | .neg => Sys2Proof.Machine.execNeg s
  | .scf => Sys2Proof.Machine.execScf s
  | .tstR r => Sys2Proof.Machine.execTstR r s
  | .tstN n => Sys2Proof.Machine.execTstN n s
  | .tstHl => Sys2Proof.Machine.execTstHl s
  | .adcHlSs ss => Sys2Proof.Machine.execAdcHlSs ss s
  | .addHlSs ss => Sys2Proof.Machine.execAddHlSs ss s
  | .addIxXx xx => Sys2Proof.Machine.execAddIxXx xx s
  | .addIyYy yy => Sys2Proof.Machine.execAddIyYy yy s
  | .decDd dd => Sys2Proof.Machine.execDecDd dd s
  | .decXy y => Sys2Proof.Machine.execDecXy y s
  | .incDd dd => Sys2Proof.Machine.execIncDd dd s
  | .incXy y => Sys2Proof.Machine.execIncXy y s
  | .mltSs ss => Sys2Proof.Machine.execMltSs ss s
  | .sbcHlSs ss => Sys2Proof.Machine.execSbcHlSs ss s
  | .ldAMn mn => Sys2Proof.Machine.execLdAMn mn s
  | .ldABc => Sys2Proof.Machine.execLdABc s
  | .ldADe => Sys2Proof.Machine.execLdADe s
  | .ldAI => Sys2Proof.Machine.execLdAI s
  | .ldAR => Sys2Proof.Machine.execLdAR s
  | .ldMnA mn => Sys2Proof.Machine.execLdMnA mn s
  | .ldBcA => Sys2Proof.Machine.execLdBcA s
  | .ldDeA => Sys2Proof.Machine.execLdDeA s
  | .ldHlN n => Sys2Proof.Machine.execLdHlN n s
  | .ldXdN y d n => Sys2Proof.Machine.execLdXdN y d n s
  | .ldHlR r => Sys2Proof.Machine.execLdHlR r s
  | .ldXdR y d r => Sys2Proof.Machine.execLdXdR y d r s
  | .ldMnHl mn => Sys2Proof.Machine.execLdMnHl mn s
  | .ldMnSs mn ss => Sys2Proof.Machine.execLdMnSs mn ss s
  | .ldMnXy mn y => Sys2Proof.Machine.execLdMnXy mn y s
  | .ldRR rd rs => Sys2Proof.Machine.execLdRR rd rs s
  | .ldRN r n => Sys2Proof.Machine.execLdRN r n s
  | .ldRHl r => Sys2Proof.Machine.execLdRHl r s
  | .ldRXd r y d => Sys2Proof.Machine.execLdRXd r y d s
  | .ldDdMn dd mn => Sys2Proof.Machine.execLdDdMn dd mn s
  | .ldXyMn y mn => Sys2Proof.Machine.execLdXyMn y mn s
  | .ldHlFromMn mn => Sys2Proof.Machine.execLdHlFromMn mn s
  | .ldDdFromMn dd mn => Sys2Proof.Machine.execLdDdFromMn dd mn s
  | .ldXyFromMn y mn => Sys2Proof.Machine.execLdXyFromMn y mn s
  | .ldIA => Sys2Proof.Machine.execLdIA s
  | .ldRA => Sys2Proof.Machine.execLdRA s
  | .ldSpHl => Sys2Proof.Machine.execLdSpHl s
  | .ldSpXy y => Sys2Proof.Machine.execLdSpXy y s
  | .popTt tt => Sys2Proof.Machine.execPopTt tt s
  | .popXy y => Sys2Proof.Machine.execPopXy y s
  | .pushTt tt => Sys2Proof.Machine.execPushTt tt s
  | .pushXy y => Sys2Proof.Machine.execPushXy y s
  | .exSpHl => Sys2Proof.Machine.execExSpHl s
  | .exSpXy y => Sys2Proof.Machine.execExSpXy y s
  | .exAfAf => Sys2Proof.Machine.execExAfAf s
  | .exDeHl => Sys2Proof.Machine.execExDeHl s
  | .exx => Sys2Proof.Machine.execExx s
  | .bitR b r => Sys2Proof.Machine.execBitR b r s
  | .bitHl b => Sys2Proof.Machine.execBitHl b s
  | .bitXd b y d => Sys2Proof.Machine.execBitXd b y d s
  | .resR b r => Sys2Proof.Machine.execResR b r s
  | .resHl b => Sys2Proof.Machine.execResHl b s
  | .resXd b y d => Sys2Proof.Machine.execResXd b y d s
  | .rlR r => Sys2Proof.Machine.execRlR r s
  | .rlHl => Sys2Proof.Machine.execRlHl s
  | .rlXd y d => Sys2Proof.Machine.execRlXd y d s
  | .rla => Sys2Proof.Machine.execRla s
  | .rlcR r => Sys2Proof.Machine.execRlcR r s
  | .rlcHl => Sys2Proof.Machine.execRlcHl s
  | .rlcXd y d => Sys2Proof.Machine.execRlcXd y d s
  | .rlca => Sys2Proof.Machine.execRlca s
  | .rld => Sys2Proof.Machine.execRld s
  | .rrR r => Sys2Proof.Machine.execRrR r s
  | .rrHl => Sys2Proof.Machine.execRrHl s
  | .rrXd y d => Sys2Proof.Machine.execRrXd y d s
  | .rra => Sys2Proof.Machine.execRra s
  | .rrcR r => Sys2Proof.Machine.execRrcR r s
  | .rrcHl => Sys2Proof.Machine.execRrcHl s
  | .rrcXd y d => Sys2Proof.Machine.execRrcXd y d s
  | .rrca => Sys2Proof.Machine.execRrca s
  | .rrd => Sys2Proof.Machine.execRrd s
  | .setR b r => Sys2Proof.Machine.execSetR b r s
  | .setHl b => Sys2Proof.Machine.execSetHl b s
  | .setXd b y d => Sys2Proof.Machine.execSetXd b y d s
  | .slaR r => Sys2Proof.Machine.execSlaR r s
  | .slaHl => Sys2Proof.Machine.execSlaHl s
  | .slaXd y d => Sys2Proof.Machine.execSlaXd y d s
  | .sraR r => Sys2Proof.Machine.execSraR r s
  | .sraHl => Sys2Proof.Machine.execSraHl s
  | .sraXd y d => Sys2Proof.Machine.execSraXd y d s
  | .srlR r => Sys2Proof.Machine.execSrlR r s
  | .srlHl => Sys2Proof.Machine.execSrlHl s
  | .srlXd y d => Sys2Proof.Machine.execSrlXd y d s
  | .callMn mn => Sys2Proof.Machine.execCallMn mn s
  | .callCcMn cc mn => Sys2Proof.Machine.execCallCcMn cc mn s
  | .djnz e2 => Sys2Proof.Machine.execDjnz e2 s
  | .jpMn mn => Sys2Proof.Machine.execJpMn mn s
  | .jpHl => Sys2Proof.Machine.execJpHl s
  | .jpXy y => Sys2Proof.Machine.execJpXy y s
  | .jpCcMn cc mn => Sys2Proof.Machine.execJpCcMn cc mn s
  | .jr e2 => Sys2Proof.Machine.execJr e2 s
  | .jrCc cc e2 => Sys2Proof.Machine.execJrCc cc e2 s
  | .ret => Sys2Proof.Machine.execRet s
  | .retCc cc => Sys2Proof.Machine.execRetCc cc s
  | .reti => Sys2Proof.Machine.execReti s
  | .retn => Sys2Proof.Machine.execRetn s
  | .rst v => Sys2Proof.Machine.execRst v s
  | .cpd => Sys2Proof.Machine.execCpd s
  | .cpdr => Sys2Proof.Machine.execCpdr s
  | .cpi => Sys2Proof.Machine.execCpi s
  | .cpir => Sys2Proof.Machine.execCpir s
  | .ldd => Sys2Proof.Machine.execLdd s
  | .lddr => Sys2Proof.Machine.execLddr s
  | .ldi => Sys2Proof.Machine.execLdi s
  | .ldir => Sys2Proof.Machine.execLdir s
  | .inAN n => Sys2Proof.Machine.execInAN n s
  | .inRC r => Sys2Proof.Machine.execInRC r s
  | .in0RN r n => Sys2Proof.Machine.execIn0RN r n s
  | .ind => Sys2Proof.Machine.execInd s
  | .indr => Sys2Proof.Machine.execIndr s
  | .ini => Sys2Proof.Machine.execIni s
  | .inir => Sys2Proof.Machine.execInir s
  | .otdm => Sys2Proof.Machine.execOtdm s
  | .otdmr => Sys2Proof.Machine.execOtdmr s
  | .otdr => Sys2Proof.Machine.execOtdr s
  | .otim => Sys2Proof.Machine.execOtim s
  | .otimr => Sys2Proof.Machine.execOtimr s
  | .otir => Sys2Proof.Machine.execOtir s
  | .outNA n => Sys2Proof.Machine.execOutNA n s
  | .outCR r => Sys2Proof.Machine.execOutCR r s
  | .out0NR n r => Sys2Proof.Machine.execOut0NR n r s
  | .outd => Sys2Proof.Machine.execOutd s
  | .outi => Sys2Proof.Machine.execOuti s
  | .tstioN n => Sys2Proof.Machine.execTstioN n s
  | .di => Sys2Proof.Machine.execDi s
  | .ei => Sys2Proof.Machine.execEi s
  | .halt => Sys2Proof.Machine.execHalt s
  | .im0 => Sys2Proof.Machine.execIm0 s
  | .im1 => Sys2Proof.Machine.execIm1 s
  | .im2 => Sys2Proof.Machine.execIm2 s
  | .nop => Sys2Proof.Machine.execNop s
  | .slp => Sys2Proof.Machine.execSlp s
  | .ldmHlMmu => Sys2Proof.Machine.execLdmHlMmu s
  | .ldmHlMmuh => Sys2Proof.Machine.execLdmHlMmuh s
  | .ldmMmuHl => Sys2Proof.Machine.execLdmMmuHl s
  | .ldmMmuhHl => Sys2Proof.Machine.execLdmMmuhHl s
  | .ldmsMmuHl => Sys2Proof.Machine.execLdmsMmuHl s
  | .swap => Sys2Proof.Machine.execSwap s
  | .wdarm => Sys2Proof.Machine.execWdarm s
  | .wdres => Sys2Proof.Machine.execWdres s
  | .ldmHlSys => Sys2Proof.Machine.execLdmHlSys s

end Sys2Proof.Machine
end

