-- ==== Sys2Proof/Machine/Environment.lean ====
section
/-! DEFINITION. What the environment does between two instructions (10_state.md R58): pin levels and the request latches (R540, R541,
R591), the timers as clocks pass (R571, R577, R578, R580, R581), time-outs (R573), upsets (R513), and the bus grant (R570 to R572). -/

namespace Sys2Proof.Machine

open Sys2Proof

/-- The request latches when the pins change (R540, R541): a rising input sets an enabled latch, a disabled latch is 0. A latch that
is enabled while its input is active or changes takes the bit `open16` has for it (UD10; log 18). -/
def latchNext (latch oldBus newBus oldEn newEn open16 : BitVec 16) : BitVec 16 :=
  let rising := newBus &&& ~~~oldBus
  ((latch ||| rising) &&& oldEn &&& newEn) ||| (open16 &&& newEn &&& ~~~oldEn &&& (oldBus ||| newBus))

/-- Whether the level `pin` passes the filter within `n` more clocks: after eleven it does, before ten it does not, and one that has stood
for exactly ten takes the bit `ten` (R591, C11; log 42). -/
def LevelFilter.passes (f : LevelFilter) (pin : Bool) (n : Nat) (ten : Bool) : Bool :=
  pin != f.level && (decide (11 ≤ f.held + n) || (decide (f.held + n = 10 ∧ n ≠ 0) && ten))

/-- `n` clocks of the filter. -/
def LevelFilter.run (f : LevelFilter) (pin : Bool) (n : Nat) (ten : Bool) : LevelFilter :=
  if pin = f.level then f else if f.passes pin n ten then ⟨pin, 0⟩ else { f with held := f.held + n }

/-- A change of the pin starts the filter again. -/
def LevelFilter.repin (f : LevelFilter) (old new : Bool) : LevelFilter := if new = old then f else { f with held := 0 }

/-- `n` clocks of the two `reset_bus` filters: a transition that passes sets its status bit and requests a user reset (R590, R591). -/
def State.resetBusTime (s : State) (n : Nat) : State :=
  let pin1 := s.pins.resetBus.getLsbD 1
  let pin0 := s.pins.resetBus.getLsbD 0
  let f := s.resetFilter
  let ten1 := Config.freeBit s.fresh .resetBus1
  let ten0 := Config.freeBit s.fresh .resetBus0
  let moved1 := f.line1.passes pin1 n ten1
  let moved0 := f.line0.passes pin0 n ten0
  { s with
    resetFilter := ⟨f.line1.run pin1 n ten1, f.line0.run pin0 n ten0⟩
    sys := { s.sys with rb1Trans := s.sys.rb1Trans || moved1, rb0Trans := s.sys.rb0Trans || moved0 }
    resetReq := s.resetReq || moved1 || moved0
    fresh := s.fresh + 1 }

/-- Whether new pin levels enable a request latch whose input is active or changes (UD10). -/
def State.enablesActive (s : State) (p : Pins) : Bool :=
  (p.intReqEn &&& ~~~s.pins.intReqEn &&& (s.pins.intReqBus ||| p.intReqBus)) != 0

/-- The request latches take new pin levels; a free value is drawn only when one is needed. -/
def State.latchPins (s : State) (p : Pins) : State :=
  let next := fun open16 =>
    latchNext s.irq.latch s.pins.intReqBus p.intReqBus s.pins.intReqEn p.intReqEn open16
  if s.enablesActive p then
    { s with irq := { s.irq with latch := next (Config.freeWord s.fresh .irqEnabled) }, fresh := s.fresh + 1 }
  else { s with irq := { s.irq with latch := next 0 } }

/-- The pins settle at new levels. -/
def State.setPins (s : State) (p : Pins) : State :=
  if s.isMpu then
    { s.latchPins p with
      rti := s.rti.repin s.pins.refClock p.refClock s.pins.rtiDivisor.toNat p.rtiDivisor.toNat
      resetFilter :=
        ⟨s.resetFilter.line1.repin (s.pins.resetBus.getLsbD 1) (p.resetBus.getLsbD 1),
          s.resetFilter.line0.repin (s.pins.resetBus.getLsbD 0) (p.resetBus.getLsbD 0)⟩
      pins := p }
  else { s with pins := p }

/-- One more time-out in a time-out byte (R565): a flag, or a count that saturates. -/
def countTimeout (mode : TimeoutMode) (v : Byte) : Byte :=
  match mode with
  | .log => 0x01
  | .acc => if v = 0xFF then 0xFF else v + 1

/-- The Watch-Dog period in clocks for a captured limit (R576). -/
def watchDogPeriod (limit : Byte) : Nat := (limit.toNat + 1) * 2 ^ 20

/-- `n` clocks of the Watch-Dog Timer and its arm window (R577, R578). `wdt_timeout` pulses once, when the count reaches the period; the
reset it requests clears the count. -/
def State.watchDogTime (s : State) (n : Nat) : State :=
  let w := s.wdt
  let count := if w.enabled then w.count + n else w.count
  let t := { s with wdt := { w with arm := w.arm - n, count := count } }
  if w.enabled ∧ w.count < watchDogPeriod w.limit ∧ watchDogPeriod w.limit ≤ count then
    { t with sys := { t.sys with rstWdt := true }, resetReq := true }.emit .wdtTimeout
  else t

/-- `k` pulses of `rti_pulse`; where the board connects it to `nmi_req` each is a Non-Maskable Interrupt request (R580, R45). -/
def State.rtiPulses (s : State) (k : Nat) : State :=
  { s with
    trace := List.replicate k .rtiPulse ++ s.trace
    nmiPending := s.nmiPending || (s.pins.rtiNmi && k != 0) }

/-- `n` clocks of the RTI generator without an edge of `ref_clock`. -/
def State.rtiRun (s : State) (n : Nat) : State :=
  let r := s.rti.run s.pins.rtiDefault s.pins.rtiDivisor.toNat n
  { s with rti := r.2 }.rtiPulses r.1

/-- A level of `ref_clock` has passed the filter: if it is high, a rising edge is recognised, which is itself a pulse, and so
the reload of the resting counter, where edges are passed through (R580, R581). -/
def State.refClockFiltered (s : State) : State :=
  let t := { s with rti := { s.rti with filtered := s.pins.refClock, held := 0 } }
  if s.pins.refClock then
    let d := s.pins.rtiDivisor.toNat
    let g := t.rti.edge d s.fresh
    if g.passes d then
      { t with rti := { g with count := rtiPeriod s.pins.rtiDefault }, fresh := s.fresh + 1 }.rtiPulses 1
    else { t with rti := g, fresh := s.fresh + 1 }
  else t

/-- `n` clocks of the RTI generator and of its filter (R580, R581). -/
def State.rtiTime (s : State) (n : Nat) : State :=
  if s.pins.refClock = s.rti.filtered then s.rtiRun n
  else if s.rti.held + n < filterClocks then
    { s with rti := { s.rti with held := s.rti.held + n } }.rtiRun n
  else
    let k := filterClocks - s.rti.held
    ((s.rtiRun k).refClockFiltered).rtiRun (n - k)

/-- Of `n` clocks with `dma_ack` active, those the limiter leaves before it ends the grant (R571). -/
def State.grantClocks (s : State) (n : Nat) : Nat :=
  if s.isMpu ∧ s.pins.drqActLim ≠ 0 then min n (16 * s.pins.drqActLim.toNat - s.dma.active) else n

/-- The limiter ends a grant that has lasted as long as it may, and the core has the bus back for its next boundary, so that it gets on
even without an idle minimum (R571, R616; log 39). -/
def State.limitGrant (s : State) : State :=
  if s.pins.drqActLim ≠ 0 ∧ 16 * s.pins.drqActLim.toNat ≤ s.dma.active then
    { s with
      dma := { dus := 0, active := 0, idle := 16 * s.pins.drqIdlLim.toNat, coreTurn := true }
      sys := { s.sys with drqTo := countTimeout s.params.dreqMode s.sys.drqTo } }.emit .drqTimeout
  else s

/-- `n` clocks of the DMA limiter (R571). A DUS bit means that `dma_ack` is active: its clocks count towards the active limit, and
at the limit the grant ends. Clocks without a grant count towards the idle minimum, those left after the limit among them. -/
def State.limiterTime (s : State) (n : Nat) : State :=
  if s.dma.dus = 0 then { s with dma := { s.dma with idle := s.dma.idle - n } }
  else
    let k := s.grantClocks n
    let t := { s with dma := { s.dma with active := s.dma.active + k } }.limitGrant
    { t with dma := { t.dma with idle := t.dma.idle - (n - k) } }

/-- `n` clocks pass (log 22): the Watch-Dog, its arm window, the RTI generator, the DMA limiter and the filters of `reset_bus`. -/
def State.passTime (s : State) (n : Nat) : State :=
  if s.isMpu then (((s.watchDogTime n).rtiTime n).limiterTime n).resetBusTime n else s

/-- The Wait limit of a transaction type; 0 disables it (R573). -/
def Pins.waitLimit (p : Pins) : WaitKind → BitVec 5
  | .iack => p.iackWaitLim
  | .io => p.ioWaitLim
  | .mem => p.memWaitLim

/-- Whether a Wait request is honoured: not while `halt_tran`, `sleep_tran` or `dma_ack` is active (R573, R422 (d), R425). -/
def State.waitHonoured (s : State) : Bool := s.runState == .run && s.dma.dus == 0

/-- A Wait request reaches its limit (R573); not possible without a limit, where none is honoured, nor in the CPU variant. -/
def State.waitExpires (s : State) (k : WaitKind) : State :=
  if s.isMpu ∧ s.pins.waitLimit k ≠ 0 ∧ s.waitHonoured then
    { s with sys := { s.sys with waitTo := countTimeout s.params.waitMode s.sys.waitTo } }.emit .waitTimeout
  else s

/-- `fault_detect` (R513). MPU: the status, free registers, a reset request. CPU: the pin alone, and the main state machine is in an
illegal state until the board resets it (log 17). -/
def State.faultUpset (s : State) (la : Word) : State :=
  let t := s.freeRegisters.emit .faultDetect
  if s.isMpu then
    { t with
      sys := { t.sys with rstFault := true, faultLa := la, faultPa := physPage (s.translate la) }
      resetReq := true }
  else { t with upset := true }

/-- The master reset (R601); the user reset that comes with it is requested. -/
def State.masterReset (s : State) : State :=
  let t := s.freeRegisters
  let t :=
    if t.isMpu then
      { t.powerOnStatus with
        rti := RtiGen.start (rtiPeriod t.pins.rtiDefault)
        resetFilter := ResetFilter.settled t.pins.resetBus }
    else t
  { t with resetReq := true }

/-- One event (R58). -/
def State.absorb (s : State) (e : EnvEvent) : State :=
  match e with
  | .pins p => s.setPins p
  | .nmi => { s with nmiPending := true }
  | .clocks n => s.passTime n
  | .resetb => if s.isMpu then s else { s with resetReq := true }
  | .clearb => s.masterReset
  | .faultDetect la => s.faultUpset la
  | .waitTimeout k => s.waitExpires k

/-- The events of a tick, in order. -/
def State.absorbAll (s : State) (es : List EnvEvent) : State := es.foldl State.absorb s

/-- The address a bus master drives; the CPU variant has 16 address lines (log 34). -/
def State.busAddress (s : State) (pa : Phys) : Nat :=
  if s.isMpu then pa.toNat else pa.toNat % 65536

/-- What a bus master writes (R570, D40): physical addresses, no protection. -/
def State.busWrites (s : State) (ws : List (Phys × Byte)) : State :=
  { s with mem := ws.foldl (fun m w => m.store (s.busAddress w.1) w.2) s.mem }

/-- The end of a grant, or of the core's own turn: no DUS bit, and the idle minimum begins (R571, R572). -/
def State.endGrant (s : State) : State :=
  if s.isMpu ∧ s.dma.dus ≠ 0 then
    { s with dma := { dus := 0, active := 0, idle := 16 * s.pins.drqIdlLim.toNat, coreTurn := false } }
  else { s with dma := { s.dma with coreTurn := false } }

/-- A bus grant to master `m`: the whole step (R570, R572, R18 item 3). No core register changes; time passes for the timers (R616). The
MPU sets the DUS bit of that master alone and acknowledges it on `dma_ack_bus`. -/
def State.dmaStep (s : State) (m : Fin 8) (g : DmaRequest) : State :=
  let n := s.grantClocks g.clocks
  let t := (s.busWrites g.writes[m]).emit .dmaAck
  if s.isMpu then
    ({ t with dma := { t.dma with dus := BitVec.twoPow 8 m.val } }.emit (.dmaAckBus (BitVec.twoPow 8 m.val))).passTime n
  else t

/-- The eight DMA requests, the one of highest priority first (R572; log 25). -/
def dmaPriority (o : PriorityOrder) : List (Fin 8) :=
  match o with
  | .lowIndexHigh => [0, 1, 2, 3, 4, 5, 6, 7]
  | .highIndexHigh => [7, 6, 5, 4, 3, 2, 1, 0]

/-- The master the controller acknowledges: the request of highest priority, whoever had the bus before. A DUS bit therefore holds back
the lower requests while its own lasts, and a higher one pre-empts it (R572). The CPU variant has one request (R570). -/
def State.busMaster (s : State) (g : DmaRequest) : Option (Fin 8) :=
  if s.isMpu then (dmaPriority s.params.dmaPriorityOrder).find? (fun k => g.requests.getLsbD k.val)
  else if g.requests.getLsbD 0 then some 0 else none

/-- The request the core grants at this boundary, and its master: none during the idle minimum, nor in the core's own turn (R571). -/
def State.granted (s : State) (d : Option DmaRequest) : Option (Fin 8 × DmaRequest) :=
  if s.isMpu ∧ (s.dma.idle ≠ 0 ∨ s.dma.coreTurn) then none
  else
    match d with
    | none => none
    | some g => (s.busMaster g).map (fun m => (m, g))

end Sys2Proof.Machine
end

