-- ==== Sys2Proof/Machine/Boundary.lean ====
section
/-! DEFINITION. One step of the core in the order of 00_scope.md R18: reset, the NOSAMPLE hold-off, a bus grant, the interrupts, the
stopped states, the jammed RST 0 of the traps, and fetch, decode and execute. -/

namespace Sys2Proof.Machine

open Sys2Proof

/-- The byte `k` places after PC, modulo 2^16 (R120, R121). -/
def State.codeByte (s : State) (k : Nat) : Byte := s.readByte (s.pc + BitVec.ofNat 16 k)

/-- What stands at PC (R121). -/
def State.fetched (s : State) : Decoded :=
  decode s.params.variant (s.codeByte 0) (s.codeByte 1) (s.codeByte 2) (s.codeByte 3)

/-- The four prefix bytes (R123), the only ones that are buffered (R46). -/
def isPrefixByte (v : Byte) : Bool := v == 0xCB || v == 0xDD || v == 0xED || v == 0xFD

/-- The instructions that may set PC back to themselves (R360). -/
def repeats (i : Instr) : Bool :=
  i ∈ [.cpdr, .cpir, .lddr, .ldir, .indr, .inir, .otdr, .otir, .otdmr, .otimr]

/-- The instructions with an address-calculation cycle in which the next byte is read: those whose clocks are less with prefetching (R622,
R630). Where that figure is lost it is a DESIGN CHOICE (log 13): BIT b,(IX+d) and IN0 r,(n) prefetch, as BIT b,(HL) and OUT0 do; SBC HL,ss,
CCF, EXX, JR e and JR cc do not, as ADC HL,ss, SCF, EX DE,HL and DJNZ do not. None of those that prefetch transfers control. -/
def prefetches (i : Instr) : Bool :=
  match i with
  | .addAHl | .addAXd .. | .adcAHl | .adcAXd .. | .subAHl | .subAXd .. | .sbcAHl | .sbcAXd .. | .andAHl | .andAXd .. | .xorAHl
  | .xorAXd .. | .orAHl | .orAXd .. | .cpAHl | .cpAXd .. | .decHl | .decXd .. | .incHl | .incXd .. | .tstHl | .ldAMn ..
  | .ldABc | .ldADe | .ldMnA .. | .ldBcA | .ldDeA | .ldHlR .. | .ldXdR .. | .ldMnHl .. | .ldMnSs .. | .ldMnXy .. | .ldRHl ..
  | .ldRXd .. | .ldHlFromMn .. | .ldDdFromMn .. | .ldXyFromMn .. | .popTt .. | .popXy .. | .pushTt .. | .pushXy .. | .exSpHl
  | .exSpXy .. | .bitHl .. | .bitXd .. | .resHl .. | .resXd .. | .rlHl | .rlXd .. | .rlcHl | .rlcXd .. | .rld | .rrHl
  | .rrXd .. | .rrcHl | .rrcXd .. | .rrd | .setHl .. | .setXd .. | .slaHl | .slaXd .. | .sraHl | .sraXd .. | .srlHl | .srlXd ..
  | .cpd | .cpi | .ldd | .ldi | .inAN .. | .inRC .. | .in0RN .. | .ind | .ini | .otdm | .otim | .outNA .. | .outCR ..
  | .out0NR .. | .outd | .outi => true
  | .addAR .. | .addAN .. | .adcAR .. | .adcAN .. | .subAR .. | .subAN .. | .sbcAR .. | .sbcAN .. | .andAR .. | .andAN ..
  | .xorAR .. | .xorAN .. | .orAR .. | .orAN .. | .cpAR .. | .cpAN .. | .ccf | .cpl | .daa | .decR .. | .incR .. | .neg | .scf
  | .tstR .. | .tstN .. | .adcHlSs .. | .addHlSs .. | .addIxXx .. | .addIyYy .. | .decDd .. | .decXy .. | .incDd .. | .incXy ..
  | .mltSs .. | .sbcHlSs .. | .ldAI | .ldAR | .ldHlN .. | .ldXdN .. | .ldRR .. | .ldRN .. | .ldDdMn .. | .ldXyMn .. | .ldIA
  | .ldRA | .ldSpHl | .ldSpXy .. | .exAfAf | .exDeHl | .exx | .bitR .. | .resR .. | .rlR .. | .rla | .rlcR .. | .rlca | .rrR ..
  | .rra | .rrcR .. | .rrca | .setR .. | .slaR .. | .sraR .. | .srlR .. | .callMn .. | .callCcMn .. | .djnz .. | .jpMn ..
  | .jpHl | .jpXy .. | .jpCcMn .. | .jr .. | .jrCc .. | .ret | .retCc .. | .reti | .retn | .rst .. | .cpdr | .cpir | .lddr
  | .ldir | .indr | .inir | .otdmr | .otdr | .otimr | .otir | .tstioN .. | .di | .ei | .halt | .im0 | .im1 | .im2 | .nop | .slp
  | .ldmHlMmu | .ldmHlMmuh | .ldmMmuHl | .ldmMmuhHl | .ldmsMmuHl | .swap | .wdarm | .wdres | .ldmHlSys => false

/-- The byte an instruction with an address-calculation cycle leaves in PREFETCHED (R46, R612): the one at its sequential successor `next`
if it is a prefix byte and not execute-inhibited, as memory held it while the instruction ran. -/
def State.prefetch (s : State) (next : Word) : Option Byte :=
  let v := s.readByte next
  if s.pins.prefetchEn && isPrefixByte v && !s.execInh (s.translate next) then some v else none

/-- The buffers after an instruction that took `s` to `t` (R612, R613): PREFETCHED if it had time to
prefetch; the bytes of a repeating instruction if it goes back to itself. When they are filled is DEDUCED (logs 13, 14). -/
def State.settle (s t : State) (i : Instr) (next : Word) : State :=
  { t with
    prefetched := if prefetches i then s.prefetch next else none
    repeating := if repeats i ∧ t.pc = s.pc then some (s.codeByte 0, s.codeByte 1) else none }

/-- Item 8 of R18: execute the instruction at PC with PC at `next`, or take the illegal-instruction trap (R505, R506). -/
def State.runInstruction (s : State) : Result :=
  match s.fetched with
  | .illegal2 => .next (s.illegal2Trap s.pc)
  | .illegal3 _ _ => .next (s.illegal3Trap s.pc)
  | .instr i len =>
    let next := s.pc + BitVec.ofNat 16 len
    match exec i (s.setPc next) with
    | .next t => .next (s.settle t i next)
    | .fault r => .fault r
    | .refused r => .refused r

/-- The buffered byte is no longer what a fetch would find, or may no longer be executed: refused (R612, UD4; log 13). -/
def State.staleBuffer (s : State) : Bool :=
  match s.prefetched with
  | some v => s.codeByte 0 != v || s.execInh (s.translate s.pc)
  | none => false

/-- A repeating instruction whose own bytes, or their permission, have changed: refused (R360, R613, UD6; log 14). -/
def State.staleRepeat (s : State) : Bool :=
  match s.repeating with
  | some (b0, b1) => s.codeByte 0 != b0 || s.codeByte 1 != b1 || s.execInh (s.translate s.pc)
  | none => false

/-- Items 5 to 8 of R18. -/
def State.proceed (s : State) : Result :=
  if s.runState ≠ .run then .next s
  else if s.isMpu && s.wpPending then .next s.writeProtectTrap
  else if s.staleBuffer then .refused .prefetchHazard
  else if s.staleRepeat then .refused .repeatHazard
  else if s.execInh (s.translate s.pc) then .next s.execInhibitTrap
  else s.runInstruction

/-- The maskable wake event of the Sleep state (R425): a level, or a change of the sampled request (D20). -/
def State.wakeEvent (s : State) : Bool :=
  s.intReq && (s.params.slpWakeLevel || !s.reqSeen)

/-- The Sleep state at a sampled boundary without an acknowledge (R425, R520): with interrupts disabled a wake event ends it. -/
def State.sleepSample (s : State) : State :=
  if s.runState = .sleep then
    { s with
      runState := if s.wakeEvent && !s.iff1 then .run else .sleep
      reqSeen := s.intReq }
  else s

/-- Items 3 and 4 of R18 at a boundary that is sampled, then the rest. -/
def State.sampled (s : State) (d : Option DmaRequest) : Result :=
  match s.granted d with
  | some (m, g) => .next (s.dmaStep m g)
  | none =>
    let t := s.endGrant
    if t.nmiPending then .next t.nmiAck
    else if t.intReq && t.iff1 then .next t.intAck
    else t.sleepSample.proceed

/-- Items 1 to 8 of R18, after the events of the tick. An illegal state of the main state machine stops the CPU variant (R513). -/
def State.boundary (s : State) (d : Option DmaRequest) : Result :=
  if s.resetReq then .next s.userReset
  else if s.upset then .fault .mainStateUpset
  else if s.isMpu && s.noSample then { s with noSample := false }.proceed
  else s.sampled d

/-- The tick the environment plays now; with an empty script nothing happens (log 12). -/
def State.tick (s : State) : Tick := s.script.headD ⟨[], none⟩

/-- The state after the events of the tick. -/
def State.afterEvents (s : State) : State := { s with script := s.script.tail }.absorbAll s.tick.events

/-- One step: the environment's tick, then the boundary. -/
def State.oneStep (s : State) : Result := s.afterEvents.boundary s.tick.dma

/-- The bytes of a table word stored where the fetch finds them: four bytes from PC on, the ones past the word 0 (log 26). -/
def State.placeCode (s : State) (nbits w : Nat) : State :=
  let put := fun (m : Memory) (k : Nat) =>
    m.store (s.translate (s.pc + BitVec.ofNat 16 k)).toNat (tableByte (nbits / 8) w k)
  { s with mem := (List.range 4).foldl put s.mem }.dropBuffers

end Sys2Proof.Machine
end

