-- ==== Sys2Proof/Machine/Step.lean ====
section
/-! DEFINITION. The step (00_scope.md R18) and the host's way to place an instruction where the next step fetches. -/

namespace Sys2Proof.Machine

open Sys2Proof

/-- One step of the machine. -/
def step (s : State) : Host.Outcome State Fault Refusal := s.oneStep

/-- `s` with the instruction of the opcode-table word `w` at PC (log 27). The buffers of an earlier fetch are emptied, so that the step
fetches exactly these bytes. -/
def State.withFetchWord (s : State) (nbits w : Nat) : State := s.placeCode nbits w

end Sys2Proof.Machine
end

