-- ==== Sys2Proof/Safety.lean ====
section
/-! DEFINITION. What claims speak in: the invariant of the machine, what it is for a step or a run to go on, what a list of memory
writes does, and the conditions under which a boundary goes straight to the next instruction. -/

namespace Sys2Proof.Machine

open Sys2Proof

/-- The highest physical address plus one (R9, R83). -/
def State.addressBound (s : State) : Nat :=
  match s.params.variant with
  | .cpu => 2 ^ 16
  | .mpu => 2 ^ 28

/-- The invariant of the machine. Memory is in canonical form and inside the address space (R83); a disabled request has no latch
(R541); at most one DUS bit is set (R572); the arm window never exceeds its 256 clocks (R445); a buffered byte is a prefix byte (R46);
a repeating instruction starts with 0xED (R360); the RTI counter and its intervals fit 24 bits (R56), a level
that has stood for 11 clocks has passed the filter, and at most two edges are counted (R581); a level of
`reset_bus` that has stood for eleven clocks has passed its filter (R591); an enabled Watch-Dog that has reached its period has requested
its reset (R578); the CPU variant never sees the conditions
only the MPU has, nor an enabled Watch-Dog (R507, R575); and the MPU variant, which a fault resets, never stands in an illegal state
(R513). -/
structure State.Inv (s : State) : Prop where
  memCanonical : s.mem.wf
  memBounded : ∀ x ∈ s.mem.cells, x.1 < s.addressBound
  latchEnabled : s.isMpu = true → s.irq.latch &&& ~~~s.pins.intReqEn = 0
  oneDus : s.dma.dus &&& (s.dma.dus - 1) = 0
  armWindow : s.wdt.arm ≤ armClocks
  bufferedPrefix : ∀ v, s.prefetched = some v → isPrefixByte v = true
  repeatedEd : ∀ v w, s.repeating = some (v, w) → v = 0xED
  rtiFits : s.rti.count < 2 ^ 24
  rtiRoom : s.rti.quotient < 2 ^ 24 ∧ s.rti.base < 2 ^ 24
  rtiFilter : s.rti.held < filterClocks
  rtiEdges : s.rti.edges ≤ 2
  resetHeld : s.resetFilter.line1.held < 11 ∧ s.resetFilter.line0.held < 11
  wdtCounts : s.wdt.enabled = true → s.wdt.count < watchDogPeriod s.wdt.limit ∨ s.resetReq = true
  cpuHasNoMpuState : s.isMpu = false → s.wpPending = false ∧ s.noSample = false ∧ s.fatalDetect = false ∧ s.wdt.enabled = false
  mpuNeverUpset : s.isMpu = true → s.upset = false

/-- The step goes on. -/
def goesOn (s : State) : Prop := ∃ t, step s = .next t

/-- A run of `k` steps never stops. -/
def runsFor (k : Nat) (s : State) : Prop := ∃ t, Sys2Proof.core.run k s = .next t

/-- The six named flags of `f` (R39). -/
def Flags.are (f : Flags) (s z h pv n c : Bool) : Prop :=
  f.s = s ∧ f.z = z ∧ f.h = h ∧ f.pv = pv ∧ f.n = n ∧ f.c = c

/-- The exclusive or of the eight bits, negated: true when the number of one bits is even (R15). -/
def evenOnes (v : Byte) : Bool := (List.range 8).foldl (fun p k => xor p (v.getLsbD k)) true

/-- The physical address of a logical one, as memory is keyed. -/
def State.phys (s : State) (la : Word) : Nat := (s.translate la).toNat

/-- Whether the board inhibits a write at a logical address (R85, R100). -/
def State.inhibited (s : State) (la : Word) : Bool := s.wrInh (s.translate la)

/-- `t` has the memory of `s` after the byte writes `ws`: each written address holds its byte, or its old one where the write is
inhibited (R85), and every other physical address reads as before. -/
def State.stored (s t : State) (ws : List (Word × Byte)) : Prop :=
  (∀ w ∈ ws, t.mem.read (s.phys w.1) = if s.inhibited w.1 then s.mem.read (s.phys w.1) else w.2) ∧
    ∀ a, (∀ w ∈ ws, a ≠ s.phys w.1) → t.mem.read a = s.mem.read a

/-- `t` has the trap latches of `s` after the byte writes `ws`: none inhibited changes nothing; otherwise the last inhibited one is
latched and the trap is pending (R511, R503), and for a stack write it is a Fatal Error (R512). -/
def State.protection (s t : State) (stack : Bool) (ws : List (Word × Byte)) : Prop :=
  match (ws.filter (fun w => s.inhibited w.1)).getLast? with
  | none =>
    t.sys = s.sys ∧ t.wpPending = s.wpPending ∧ t.fatalDetect = s.fatalDetect ∧ t.resetReq = s.resetReq
  | some w =>
    t.sys = { s.sys with
      trapWp := true
      trapLa := w.1
      trapPa := (s.translate w.1).extractLsb' 12 16
      rstFatal := s.sys.rstFatal || stack } ∧
    t.wpPending = true ∧ t.fatalDetect = (s.fatalDetect || stack) ∧ t.resetReq = (s.resetReq || stack)

/-- Both halves of what the writes `ws` do. -/
def State.writes (s t : State) (stack : Bool) (ws : List (Word × Byte)) : Prop :=
  s.stored t ws ∧ s.protection t stack ws

/-- `t` is `s` but for its memory and the protection latches. -/
def State.onlyStores (s t : State) : Prop :=
  t = { s with
    mem := t.mem
    sys := t.sys
    wpPending := t.wpPending
    fatalDetect := t.fatalDetect
    resetReq := t.resetReq }

/-- The two stack writes of a push, high byte first (R170). -/
def State.pushed (s : State) (v : Word) : List (Word × Byte) :=
  [(s.sp - 1, v.extractLsb' 8 8), (s.sp - 2, v.extractLsb' 0 8)]

/-- The environment does nothing at this boundary: no events, no reset, no grant that ends. -/
structure State.Undisturbed (s : State) : Prop where
  script : s.script = []
  resetReq : s.resetReq = false
  upset : s.upset = false
  dus : s.dma.dus = 0
  coreTurn : s.dma.coreTurn = false

/-- An undisturbed running core with no interrupt to take: items 1 to 5 of R18 do nothing. -/
structure State.Sequential (s : State) : Prop where
  undisturbed : s.Undisturbed
  noSample : s.noSample = false
  nmi : s.nmiPending = false
  int : (s.intReq && s.iff1) = false
  running : s.runState = .run

/-- A boundary after an instruction that set NOSAMPLE, whatever asks for the bus or for an interrupt there: items 3 to 5 of R18 are passed
over (R440, R48). -/
structure State.HeldOff (s : State) : Prop where
  isMpu : s.isMpu = true
  noSample : s.noSample = true
  script : ∃ d, s.script = [⟨[], d⟩]
  resetReq : s.resetReq = false
  upset : s.upset = false
  running : s.runState = .run

/-- Nothing stands in the way of a fetch at PC: no pending Write Protect trap, no stale buffered byte, no repeat whose bytes changed,
no execute inhibit (items 6 and 7 of R18; R612, R613). -/
structure State.MayFetch (s : State) : Prop where
  wpPending : s.wpPending = false
  buffer : s.staleBuffer = false
  repeats : s.staleRepeat = false
  execInh : s.execInh (s.translate s.pc) = false

end Sys2Proof.Machine
end

