-- ==== Sys2Proof/Certificates/Slice0/Obligations.lean ====
section
/-! DEFINITION. The statements for the provers. Each is about the meaning `exec` gives an instruction (which runs with PC already at
the next one, 10_state.md R38), about `step`, about decoding, or about the invariant. Operands are named by the model's accessors
(`r8`, `idx`, `rp`, `rpTt`, `rpXx`, `rpYy`, `hl`, `indexed`, `readByte`, `readWord`); what those compute, code by code, is the statement
OperandsAreFormedAsWritten. -/

open Sys2Proof Sys2Proof.Machine

/-! ## Encoding and decoding -/

/-- Every instruction an implementation has decodes from its encoding, whatever bytes follow it (30_encoding.md). -/
def Obligations.EncodedInstructionsDecodeToThemselves : Prop :=
  ∀ (v : Variant) (i : Instr) (b0 b1 b2 b3 : Byte), i.wellFormed v = true → encode i <+: [b0, b1, b2, b3] →
    decode v b0 b1 b2 b3 = .instr i (encode i).length

/-- The decoder answers an instruction only for that instruction's encoding, and one of the two illegal classes only for bytes no
instruction of the implementation encodes to: the first class starts with a prefix byte and an undefined second byte, the second is
the indexed bit form (R140, R141). -/
def Obligations.DecodingAnswersExactlyTheEncodings : Prop :=
  ∀ (v : Variant) (b0 b1 b2 b3 : Byte),
    match decode v b0 b1 b2 b3 with
    | .instr i len => i.wellFormed v = true ∧ encode i <+: [b0, b1, b2, b3] ∧ len = (encode i).length
    | .illegal2 =>
      isPrefixByte b0 = true ∧ ¬((b0 = 0xDD ∨ b0 = 0xFD) ∧ b1 = 0xCB) ∧
        ∀ i c2 c3, i.wellFormed v = true → ¬encode i <+: [b0, b1, c2, c3]
    | .illegal3 y d =>
      b0 = y.byte ∧ b1 = 0xCB ∧ b2 = d ∧ ∀ i, i.wellFormed v = true → ¬encode i <+: [b0, b1, b2, b3]

/-- Words written out from the encodings of the spec decode to the instructions they stand for. -/
def Obligations.WordsFromTheTableDecode : Prop :=
  decodeTableWord 8 0b10000010 = some (.addAR .d) ∧
  decodeTableWord 16 0b1110110101011010 = some (.adcHlSs .de) ∧
  decodeTableWord 24 0b110111011000111000000101 = some (.adcAXd .ix 5) ∧
  decodeTableWord 32 0b11111101110010111000000001011110 = some (.bitXd 3 .iy 0x80) ∧
  decodeTableWord 8 0b11011111 = some (.rst 3) ∧
  decodeTableWord 16 0b1110110110110000 = some .ldir ∧
  decodeTableWord 24 0b111011010011100001000100 = some (.in0RN .a 0x44) ∧
  decodeTableWord 16 0b1110110110011010 = some .ldmHlSys ∧
  decodeTableWord 24 0b110000100011010000010010 = some (.jpCcMn .nz 0x1234) ∧
  decodeTableWord 24 0b001000100011010000010010 = some (.ldMnHl 0x1234)

/-! ## The step -/

/-- A step at a boundary where nothing intervenes runs the instruction that stands at PC, with PC past its bytes (R18 item 8). It also sets
the two fetch buffers: that they exist follows R46, R612 and R613; when they are filled, and the field `repeating`, are the model's
reading, DEDUCED (logs 13 and 14). -/
def Obligations.StepRunsTheDecodedInstruction : Prop :=
  ∀ (s : State) (i : Instr) (len : Nat), s.Sequential → s.MayFetch →
    decode s.params.variant (s.readByte s.pc) (s.readByte (s.pc + 1)) (s.readByte (s.pc + 2)) (s.readByte (s.pc + 3)) =
      .instr i len →
    let next := s.pc + BitVec.ofNat 16 len
    step s =
      match exec i { s with pc := next } with
      | .fault r => .fault r
      | .refused r => .refused r
      | .next t =>
        .next { t with
          prefetched :=
            if prefetches i = true ∧ s.pins.prefetchEn = true ∧ isPrefixByte (s.readByte next) = true ∧
                s.execInh (s.translate next) = false
            then some (s.readByte next) else none
          repeating :=
            if repeats i = true ∧ t.pc = s.pc then some (s.readByte s.pc, s.readByte (s.pc + 1)) else none }

/-- After an instruction that set NOSAMPLE the next one runs: neither a bus request nor an interrupt is honoured at that boundary
(R18 item 2, R48, R440). A pending Write Protect trap is not held off there: PendingWriteProtectTraps says so. -/
def Obligations.HeldOffBoundaryRunsTheNextInstruction : Prop :=
  ∀ s : State, s.HeldOff → s.MayFetch → step s = { s with noSample := false, script := [] }.runInstruction

/-- A halted core, or a sleeping one that sees no request, with no reset, no grant and no interrupt to take, stays as it is; only the
model's own sample of the request (log 32) moves, and only in the Sleep state. A sleeping core with interrupts disabled goes on with the
instruction after SLP when a maskable request becomes active, and nothing is pushed for it; a request it has seen already wakes it if
`SLP_WAKE_LEVEL` is true and leaves it asleep if not (R18 items 4 and 5, R422, R425, R520, D20). -/
def Obligations.StoppedCoreWaitsForARequest : Prop :=
  ∀ s : State, s.Undisturbed → s.noSample = false → s.nmiPending = false → (s.intReq && s.iff1) = false →
    let wakes := { s with runState := .run, reqSeen := true }.runInstruction
    (s.runState = .halt → step s = .next s) ∧
      (s.runState = .sleep → s.intReq = false → step s = .next { s with reqSeen := false }) ∧
      (s.runState = .sleep → s.intReq = true → s.reqSeen = false → s.MayFetch → step s = wakes) ∧
      (s.runState = .sleep → s.intReq = true → s.reqSeen = true → s.params.slpWakeLevel = true → s.MayFetch → step s = wakes) ∧
      (s.runState = .sleep → s.intReq = true → s.reqSeen = true → s.params.slpWakeLevel = false → step s = .next s)

/-- A user reset requested before the step is the whole step, whatever else is pending, and leaves each register as R600 and R60 say. The
zeros of IFF1, IFF2, IM, IRQ_LATCH, IUS and DUS are decisions of the spec (D4, D30; log 4), and both register banks stay as they are, as
R600 and D5 say, although the table of R60 calls the bank selection unspecified (log 21). -/
def Obligations.UserResetTakesTheStep : Prop :=
  ∀ s : State, s.script = [] → s.resetReq = true →
    ∃ t, step s = .next t ∧
      t.pc = 0 ∧ t.i = s.params.resetI ∧ t.r = s.params.resetR ∧ t.sp = s.params.resetSp ∧
      t.iff1 = false ∧ t.iff2 = false ∧ t.im = .im0 ∧ t.runState = .run ∧
      t.nmiPending = false ∧ t.wpPending = false ∧ t.noSample = false ∧ t.prefetched = none ∧ t.repeating = none ∧
      t.fatalDetect = false ∧ t.resetReq = false ∧
      (s.isMpu = true →
        (∀ n : Fin 16, t.mmu.active[n] = BitVec.ofNat 16 n.val ∧ t.mmu.buffer[n] = BitVec.ofNat 16 n.val) ∧
          t.irq.latch = 0 ∧ t.irq.ius = 0 ∧ t.dma.dus = 0 ∧ t.wdt.enabled = false ∧ t.wdt.arm = 0) ∧
      t.main = s.main ∧ t.alt = s.alt ∧ t.ix = s.ix ∧ t.iy = s.iy ∧ t.mem = s.mem ∧ t.params = s.params ∧ t.pins = s.pins ∧
      t.rti = s.rti ∧ t.sys = { s.sys with drqTo := t.sys.drqTo, waitTo := t.sys.waitTo }

/-- What the spec gives the machine at power-on (R60, R601): the values `State.reset` has from the spec itself. -/
def Obligations.ResetLeavesTheStatedValues : Prop :=
  State.reset.pc = 0x0000 ∧ State.reset.runState = .run ∧
  (∀ n : Fin 16, State.reset.mmu.active[n] = BitVec.ofNat 16 n.val ∧ State.reset.mmu.buffer[n] = BitVec.ofNat 16 n.val) ∧
  State.reset.nmiPending = false ∧ State.reset.wpPending = false ∧ State.reset.noSample = false ∧
  State.reset.prefetched = none ∧ State.reset.wdt.enabled = false ∧ State.reset.wdt.arm = 0 ∧
  State.reset.sys.rstPwron = true ∧ State.reset.sys.trapWp = false ∧ State.reset.sys.trapXp = false ∧
  State.reset.sys.trapI3 = false ∧ State.reset.sys.trapI2 = false

/-- The reset state meets the invariant. -/
def Obligations.ResetStateMeetsTheInvariant : Prop := State.reset.Inv

/-- Every step from any state that meets the invariant, whatever the environment does, gives a state that meets it. -/
def Obligations.EveryStepKeepsTheInvariant : Prop :=
  ∀ s t : State, s.Inv → step s = .next t → t.Inv

/-- A step stops only where the spec itself gives no effect: in the CPU variant after an upset of its state machine (R513), at a buffered
byte that is not what a fetch would find now or may no longer be executed (R612), or at a repeating instruction whose own bytes or their
permission have changed (R613). No instruction stops it. -/
def Obligations.StepStopsOnlyAtUndefinedHazards : Prop :=
  ∀ s : State, s.Inv →
    let u := s.afterEvents
    let forbidden := u.execInh (u.translate u.pc) = true
    (∀ r, step s = .fault r → r = .mainStateUpset ∧ s.isMpu = false ∧ u.upset = true) ∧
      ∀ r, step s = .refused r →
        (r = .prefetchHazard ∧ u.staleBuffer = true ∧ ∃ v, u.prefetched = some v ∧ (u.readByte u.pc ≠ v ∨ forbidden)) ∨
          (r = .repeatHazard ∧ u.staleRepeat = true ∧ ∃ v w, u.repeating = some (v, w) ∧
            (u.readByte u.pc ≠ v ∨ u.readByte (u.pc + 1) ≠ w ∨ forbidden))

/-! ## Memory and operands -/

/-- `Translate` (R95), through which every memory access goes: identity in the CPU variant; in the MPU variant the register of the page
gives the upper sixteen bits and the low twelve bits of the logical address the rest. -/
def Obligations.TranslationLooksUpThePage : Prop :=
  ∀ (s : State) (la : Word), s.readByte la = s.mem.read (s.translate la).toNat ∧
    (s.params.variant = .cpu → (s.translate la).toNat = la.toNat) ∧
      (s.params.variant = .mpu → ∀ page : Fin 16, page.val = la.toNat / 4096 →
        (s.translate la).toNat = s.mmu.active[page].toNat * 4096 + la.toNat % 4096)

/-- How operands are formed. Each register code of an encoding names its register: `r8` (R124), `rp_dd`, `rp_tt`, `rp_xx`, `rp_yy` (R125)
and the two index prefixes (R15). Pairs have their first register high (R31), words in memory the low byte first (R86), indexed addresses
a displacement (R127). That A is the high byte of AF (G8) and that the displacement is signed (G3) is PRESUMED (log 29). -/
def Obligations.OperandsAreFormedAsWritten : Prop :=
  ∀ s : State,
    let reg := fun (r : Reg8) (c : BitVec 3) (v : Byte) => encode (.ldRR r r) = [0b01#2 ++ c ++ c] ∧ s.r8 r = v
    let dd := fun (r : RegSs) (c : BitVec 2) (v : Word) => encode (.incDd r) = [0b00#2 ++ c ++ 0b0011#4] ∧ s.rp r = v
    let tt := fun (r : RegTt) (c : BitVec 2) (v : Word) => encode (.pushTt r) = [0b11#2 ++ c ++ 0b0101#4] ∧ s.rpTt r = v
    let xx := fun (r : RegXx) (c : BitVec 2) (v : Word) => encode (.addIxXx r) = [0xDD, 0b00#2 ++ c ++ 0b1001#4] ∧ s.rpXx r = v
    let yy := fun (r : RegYy) (c : BitVec 2) (v : Word) => encode (.addIyYy r) = [0xFD, 0b00#2 ++ c ++ 0b1001#4] ∧ s.rpYy r = v
    reg .b 0b000 s.main.b ∧ reg .c 0b001 s.main.c ∧ reg .d 0b010 s.main.d ∧ reg .e 0b011 s.main.e ∧ reg .h 0b100 s.main.h ∧
    reg .l 0b101 s.main.l ∧ reg .a 0b111 s.main.a ∧
    dd .bc 0b00 s.bc ∧ dd .de 0b01 s.de ∧ dd .hl 0b10 s.hl ∧ dd .sp 0b11 s.sp ∧
    tt .bc 0b00 s.bc ∧ tt .de 0b01 s.de ∧ tt .hl 0b10 s.hl ∧ tt .af 0b11 s.af ∧
    xx .bc 0b00 s.bc ∧ xx .de 0b01 s.de ∧ xx .ix 0b10 s.ix ∧ xx .sp 0b11 s.sp ∧
    yy .bc 0b00 s.bc ∧ yy .de 0b01 s.de ∧ yy .iy 0b10 s.iy ∧ yy .sp 0b11 s.sp ∧
    encode (.jpXy .ix) = [0xDD, 0xE9] ∧ s.idx .ix = s.ix ∧ encode (.jpXy .iy) = [0xFD, 0xE9] ∧ s.idx .iy = s.iy ∧
    s.bc.toNat = 256 * s.main.b.toNat + s.main.c.toNat ∧ s.de.toNat = 256 * s.main.d.toNat + s.main.e.toNat ∧
    s.hl.toNat = 256 * s.main.h.toNat + s.main.l.toNat ∧ s.af.toNat = 256 * s.main.a.toNat + s.main.f.toByte.toNat ∧
    (∀ la, s.readByte la = s.mem.read (s.phys la)) ∧
    (∀ la, (s.readWord la).toNat = (s.readByte la).toNat + 256 * (s.readByte (la + 1)).toNat) ∧
    ∀ y d, ((s.indexed y d).toNat : Int) = ((s.idx y).toNat + d.toInt) % 65536

/-! ## Loads, stack and exchanges -/

/-- The 8-bit loads into a register write that register and nothing else (R171, R177). -/
def Obligations.ByteLoadsWriteOneRegister : Prop :=
  ∀ s : State,
    let loads := fun (i : Instr) (r : Reg8) (v : Byte) =>
      ∃ t, exec i s = .next t ∧ t.r8 r = v ∧ (∀ q, q ≠ r → t.r8 q = s.r8 q) ∧ t.main.f = s.main.f ∧
        t = { s with main := t.main }
    (∀ rd rs, loads (.ldRR rd rs) rd (s.r8 rs)) ∧ (∀ r n, loads (.ldRN r n) r n) ∧
    (∀ r, loads (.ldRHl r) r (s.readByte s.hl)) ∧ (∀ r y d, loads (.ldRXd r y d) r (s.readByte (s.indexed y d))) ∧
    (∀ mn, loads (.ldAMn mn) .a (s.readByte mn)) ∧ loads .ldABc .a (s.readByte s.bc) ∧ loads .ldADe .a (s.readByte s.de)

/-- LD A,I and LD A,R load A and take P/V from IFF2 (R172; P/V is PRESUMED, log 29); LD I,A and LD R,A write I or R alone (R180). -/
def Obligations.SpecialRegisterLoads : Prop :=
  ∀ s : State,
    let loadsA := fun (i : Instr) (v : Byte) =>
      ∃ t, exec i s = .next t ∧ t.main.a = v ∧ t.main.f.are (v.getLsbD 7) (decide (v = 0)) false s.iff2 false s.main.f.c ∧
        t = { s with main := { s.main with a := t.main.a, f := t.main.f }, fresh := t.fresh }
    loadsA .ldAI s.i ∧ loadsA .ldAR s.r ∧
      exec .ldIA s = .next { s with i := s.main.a } ∧ exec .ldRA s = .next { s with r := s.main.a }

/-- The stores write memory and no register: the 8-bit ones one byte, the 16-bit ones the low byte at `mn` and the high byte at `mn + 1`,
each byte checked on its own and dropped where the board inhibits it (R173 to R176, R85, R86). -/
def Obligations.StoresWriteOnlyTheirBytes : Prop :=
  ∀ s : State,
    let stores := fun (i : Instr) (ws : List (Word × Byte)) => ∃ t, exec i s = .next t ∧ s.writes t false ws ∧ s.onlyStores t
    let word := fun (mn w : Word) => [(mn, w.extractLsb' 0 8), (mn + 1, w.extractLsb' 8 8)]
    (∀ mn, stores (.ldMnA mn) [(mn, s.main.a)]) ∧ stores .ldBcA [(s.bc, s.main.a)] ∧ stores .ldDeA [(s.de, s.main.a)] ∧
    (∀ n, stores (.ldHlN n) [(s.hl, n)]) ∧ (∀ y d n, stores (.ldXdN y d n) [(s.indexed y d, n)]) ∧
    (∀ r, stores (.ldHlR r) [(s.hl, s.r8 r)]) ∧ (∀ y d r, stores (.ldXdR y d r) [(s.indexed y d, s.r8 r)]) ∧
    (∀ mn, stores (.ldMnHl mn) (word mn s.hl)) ∧ (∀ mn ss, stores (.ldMnSs mn ss) (word mn (s.rp ss))) ∧
    ∀ mn y, stores (.ldMnXy mn y) (word mn (s.idx y))

/-- The 16-bit loads write their pair, index register or SP and nothing else (R178, R179, R181). -/
def Obligations.WordLoadsWriteOneRegister : Prop :=
  ∀ s : State,
    let loads := fun (i : Instr) (r : RegSs) (w : Word) =>
      ∃ t, exec i s = .next t ∧ t.rp r = w ∧ (∀ q, q ≠ r → t.rp q = s.rp q) ∧ t.main.a = s.main.a ∧ t.main.f = s.main.f ∧
        t = { s with main := t.main, sp := t.sp }
    let loadsIndex := fun (i : Instr) (y : Idx) (w : Word) =>
      ∃ t, exec i s = .next t ∧ t.idx y = w ∧ (∀ q, q ≠ y → t.idx q = s.idx q) ∧ t = { s with ix := t.ix, iy := t.iy }
    (∀ dd mn, loads (.ldDdMn dd mn) dd mn) ∧ (∀ y mn, loadsIndex (.ldXyMn y mn) y mn) ∧
    (∀ mn, loads (.ldHlFromMn mn) .hl (s.readWord mn)) ∧ (∀ dd mn, loads (.ldDdFromMn dd mn) dd (s.readWord mn)) ∧
    (∀ y mn, loadsIndex (.ldXyFromMn y mn) y (s.readWord mn)) ∧
    loads .ldSpHl .sp s.hl ∧ ∀ y, loads (.ldSpXy y) .sp (s.idx y)

/-- PUSH stores the register below SP, high byte above low byte, and moves SP down by two (R170, R183); an inhibited stack write is a
Fatal Error and SP moves all the same (R512). -/
def Obligations.PushStoresBelowTheStackPointer : Prop :=
  ∀ s : State,
    let pushes := fun (i : Instr) (w : Word) =>
      ∃ t, exec i s = .next t ∧ s.writes t true (s.pushed w) ∧ { s with sp := s.sp - 2 }.onlyStores t
    (∀ tt, pushes (.pushTt tt) (s.rpTt tt)) ∧ ∀ y, pushes (.pushXy y) (s.idx y)

/-- POP loads the word at SP and moves SP up by two; POP AF loads all eight bits of F (R170, R182, R41). -/
def Obligations.PopLoadsFromTheStackPointer : Prop :=
  ∀ s : State,
    let w := s.readWord s.sp
    (∃ t, exec (.popTt .bc) s = .next t ∧ t.bc = w ∧
      t = { s with main := { s.main with b := t.main.b, c := t.main.c }, sp := s.sp + 2 }) ∧
    (∃ t, exec (.popTt .de) s = .next t ∧ t.de = w ∧
      t = { s with main := { s.main with d := t.main.d, e := t.main.e }, sp := s.sp + 2 }) ∧
    (∃ t, exec (.popTt .hl) s = .next t ∧ t.hl = w ∧
      t = { s with main := { s.main with h := t.main.h, l := t.main.l }, sp := s.sp + 2 }) ∧
    (∃ t, exec (.popTt .af) s = .next t ∧ t.main.a = w.extractLsb' 8 8 ∧ t.main.f.toByte = w.extractLsb' 0 8 ∧
      t = { s with main := { s.main with a := t.main.a, f := t.main.f }, sp := s.sp + 2 }) ∧
    exec (.popXy .ix) s = .next { s with ix := w, sp := s.sp + 2 } ∧
    exec (.popXy .iy) s = .next { s with iy := w, sp := s.sp + 2 }

/-- EX (SP) loads the register with the word at SP and stores its old value there, as two stack writes; SP stays (R184, R85). -/
def Obligations.ExchangeWithTheStackTop : Prop :=
  ∀ s : State,
    let old := fun (w : Word) => [(s.sp, w.extractLsb' 0 8), (s.sp + 1, w.extractLsb' 8 8)]
    (∃ t, exec .exSpHl s = .next t ∧ s.writes t true (old s.hl) ∧ t.hl = s.readWord s.sp ∧
      { s with main := { s.main with h := t.main.h, l := t.main.l } }.onlyStores t) ∧
    (∃ t, exec (.exSpXy .ix) s = .next t ∧ s.writes t true (old s.ix) ∧ { s with ix := s.readWord s.sp }.onlyStores t) ∧
    ∃ t, exec (.exSpXy .iy) s = .next t ∧ s.writes t true (old s.iy) ∧ { s with iy := s.readWord s.sp }.onlyStores t

/-- The register exchanges, each of which undoes itself (R185, R186, R187). -/
def Obligations.RegisterExchangesUndoThemselves : Prop :=
  ∀ s : State,
    (∃ t, exec .exAfAf s = .next t ∧ exec .exAfAf t = .next s ∧
      t = { s with
        main := { s.main with a := s.alt.a, f := s.alt.f }
        alt := { s.alt with a := s.main.a, f := s.main.f } }) ∧
    (∃ t, exec .exDeHl s = .next t ∧ exec .exDeHl t = .next s ∧ t.de = s.hl ∧ t.hl = s.de ∧
      t = { s with main := { s.main with d := t.main.d, e := t.main.e, h := t.main.h, l := t.main.l } }) ∧
    ∃ t, exec .exx s = .next t ∧ exec .exx t = .next s ∧
      t = { s with
        main := ⟨s.main.a, s.main.f, s.alt.b, s.alt.c, s.alt.d, s.alt.e, s.alt.h, s.alt.l⟩
        alt := ⟨s.alt.a, s.alt.f, s.main.b, s.main.c, s.main.d, s.main.e, s.main.h, s.main.l⟩ }

/-! ## 8-bit arithmetic and logic -/

/-- ADD and ADC: A takes the sum modulo 256, every flag as R220 says (overflow as the signed sum out of range), nothing else changes
(R222, R223). -/
def Obligations.AdditionsSetSumAndFlags : Prop :=
  ∀ s : State,
    let a := s.main.a
    let adds := fun (i : Instr) (v : Byte) (cin : Bool) =>
      let sum := a.toNat + v.toNat + cin.toNat
      let signed := a.toInt + v.toInt + cin.toNat
      ∃ t, exec i s = .next t ∧ t.main.a.toNat = sum % 256 ∧
        t.main.f.are (decide (128 ≤ sum % 256)) (decide (sum % 256 = 0)) (decide (15 < a.toNat % 16 + v.toNat % 16 + cin.toNat))
          (decide (signed < -128 ∨ 127 < signed)) false (decide (255 < sum)) ∧
        t = { s with main := { s.main with a := t.main.a, f := t.main.f }, fresh := t.fresh }
    let cf := s.main.f.c
    (∀ r, adds (.addAR r) (s.r8 r) false) ∧ (∀ n, adds (.addAN n) n false) ∧ adds .addAHl (s.readByte s.hl) false ∧
    (∀ y d, adds (.addAXd y d) (s.readByte (s.indexed y d)) false) ∧
    (∀ r, adds (.adcAR r) (s.r8 r) cf) ∧ (∀ n, adds (.adcAN n) n cf) ∧ adds .adcAHl (s.readByte s.hl) cf ∧
    ∀ y d, adds (.adcAXd y d) (s.readByte (s.indexed y d)) cf

/-- SUB, SBC and NEG: A takes the difference modulo 256, every flag as R220 says, nothing else changes (R231, R233, R235). -/
def Obligations.SubtractionsSetDifferenceAndFlags : Prop :=
  ∀ s : State,
    let subtracts := fun (i : Instr) (a v : Byte) (cin : Bool) =>
      let diff : Int := (a.toNat : Int) - v.toNat - cin.toNat
      let signed := a.toInt - v.toInt - cin.toNat
      ∃ t, exec i s = .next t ∧ (t.main.a.toNat : Int) = diff % 256 ∧
        t.main.f.are (decide (128 ≤ diff % 256)) (decide (diff % 256 = 0)) (decide (a.toNat % 16 < v.toNat % 16 + cin.toNat))
          (decide (signed < -128 ∨ 127 < signed)) true (decide (diff < 0)) ∧
        t = { s with main := { s.main with a := t.main.a, f := t.main.f }, fresh := t.fresh }
    let a := s.main.a
    let cf := s.main.f.c
    (∀ r, subtracts (.subAR r) a (s.r8 r) false) ∧ (∀ n, subtracts (.subAN n) a n false) ∧
    subtracts .subAHl a (s.readByte s.hl) false ∧ (∀ y d, subtracts (.subAXd y d) a (s.readByte (s.indexed y d)) false) ∧
    (∀ r, subtracts (.sbcAR r) a (s.r8 r) cf) ∧ (∀ n, subtracts (.sbcAN n) a n cf) ∧
    subtracts .sbcAHl a (s.readByte s.hl) cf ∧ (∀ y d, subtracts (.sbcAXd y d) a (s.readByte (s.indexed y d)) cf) ∧
    subtracts .neg 0 a false

/-- CP and TST set the flags of the subtraction, or of the conjunction, and change no register (R226, R236). -/
def Obligations.ComparesAndTestsChangeOnlyFlags : Prop :=
  ∀ s : State,
    let a := s.main.a
    let onlyFlags := fun (t : State) => t = { s with main := { s.main with f := t.main.f }, fresh := t.fresh }
    let compares := fun (i : Instr) (v : Byte) =>
      let diff : Int := (a.toNat : Int) - v.toNat
      let signed := a.toInt - v.toInt
      ∃ t, exec i s = .next t ∧ onlyFlags t ∧
        t.main.f.are (decide (128 ≤ diff % 256)) (decide (a = v)) (decide (a.toNat % 16 < v.toNat % 16))
          (decide (signed < -128 ∨ 127 < signed)) true (decide (a.toNat < v.toNat))
    let tests := fun (i : Instr) (v : Byte) =>
      ∃ t, exec i s = .next t ∧ onlyFlags t ∧
        t.main.f.are ((a &&& v).getLsbD 7) (decide (a &&& v = 0)) true (evenOnes (a &&& v)) false false
    (∀ r, compares (.cpAR r) (s.r8 r)) ∧ (∀ n, compares (.cpAN n) n) ∧ compares .cpAHl (s.readByte s.hl) ∧
    (∀ y d, compares (.cpAXd y d) (s.readByte (s.indexed y d))) ∧
    (∀ r, tests (.tstR r) (s.r8 r)) ∧ (∀ n, tests (.tstN n) n) ∧ tests .tstHl (s.readByte s.hl)

/-- AND, XOR and OR combine A with the source bit by bit; parity of the result, N and C clear, H set by AND alone (R224, R232, R237). -/
def Obligations.LogicCombinesBitByBit : Prop :=
  ∀ s : State,
    let a := s.main.a
    let combines := fun (i : Instr) (op : Bool → Bool → Bool) (h : Bool) (v : Byte) =>
      ∃ t, exec i s = .next t ∧ (∀ k, k < 8 → t.main.a.getLsbD k = op (a.getLsbD k) (v.getLsbD k)) ∧
        t.main.f.are (t.main.a.getLsbD 7) (decide (t.main.a = 0)) h (evenOnes t.main.a) false false ∧
        t = { s with main := { s.main with a := t.main.a, f := t.main.f }, fresh := t.fresh }
    (∀ r, combines (.andAR r) and true (s.r8 r)) ∧ (∀ n, combines (.andAN n) and true n) ∧
    combines .andAHl and true (s.readByte s.hl) ∧ (∀ y d, combines (.andAXd y d) and true (s.readByte (s.indexed y d))) ∧
    (∀ r, combines (.xorAR r) xor false (s.r8 r)) ∧ (∀ n, combines (.xorAN n) xor false n) ∧
    combines .xorAHl xor false (s.readByte s.hl) ∧ (∀ y d, combines (.xorAXd y d) xor false (s.readByte (s.indexed y d))) ∧
    (∀ r, combines (.orAR r) or false (s.r8 r)) ∧ (∀ n, combines (.orAN n) or false n) ∧
    combines .orAHl or false (s.readByte s.hl) ∧ ∀ y d, combines (.orAXd y d) or false (s.readByte (s.indexed y d))

/-- INC and DEC step one register, or one byte of memory where it was read, modulo 256; C stays, and nothing else changes (R229, R230,
R85). -/
def Obligations.ByteStepsKeepCarry : Prop :=
  ∀ s : State,
    let steps := fun (i : Instr) (r : Reg8) (res : Nat) (h pv n : Bool) =>
      ∃ t, exec i s = .next t ∧ (t.r8 r).toNat = res ∧ (∀ q, q ≠ r → t.r8 q = s.r8 q) ∧
        t.main.f.are (decide (128 ≤ res)) (decide (res = 0)) h pv n s.main.f.c ∧ t = { s with main := t.main, fresh := t.fresh }
    let stepsMemory := fun (i : Instr) (la : Word) (delta : Byte) =>
      let v := s.readByte la
      let down := decide (delta = 0xFF)
      ∃ t, exec i s = .next t ∧ s.writes t false [(la, v + delta)] ∧
        t.main.f.are ((v + delta).getLsbD 7) (decide (v + delta = 0))
          (decide (v.toNat % 16 = if down then 0 else 15)) (decide (v = if down then 0x80 else 0x7F)) down s.main.f.c ∧
        { s with main := { s.main with f := t.main.f }, fresh := t.fresh }.onlyStores t
    (∀ r,
      let v := (s.r8 r).toNat
      steps (.incR r) r ((v + 1) % 256) (decide (v % 16 = 15)) (decide (v = 0x7F)) false ∧
        steps (.decR r) r ((v + 255) % 256) (decide (v % 16 = 0)) (decide (v = 0x80)) true) ∧
      stepsMemory .incHl s.hl 1 ∧ (∀ y d, stepsMemory (.incXd y d) (s.indexed y d) 1) ∧
      stepsMemory .decHl s.hl 0xFF ∧ ∀ y d, stepsMemory (.decXd y d) (s.indexed y d) 0xFF

/-- CCF, SCF and CPL: the carry complemented or set, A complemented; S, Z and P/V stay (R225, R227, R234). -/
def Obligations.CarryAndComplementOperations : Prop :=
  ∀ s : State,
    let f := s.main.f
    let sets := fun (i : Instr) (a : Nat) (h n c : Bool) =>
      ∃ t, exec i s = .next t ∧ t.main.a.toNat = a ∧ t.main.f.are f.s f.z h f.pv n c ∧
        t = { s with main := { s.main with a := t.main.a, f := t.main.f }, fresh := t.fresh }
    sets .ccf s.main.a.toNat (decide (s.params.ccfMode = .z80) && f.c) false (!f.c) ∧
      sets .scf s.main.a.toNat false false true ∧ sets .cpl (255 - s.main.a.toNat) true true f.c

/-- DAA adds the number of the table's row, whichever row applies, sets S, Z, P/V from the result and C from the row, keeps N, and
changes nothing else. Outside the table it completes too (R228). -/
def Obligations.DecimalAdjustFollowsTheTable : Prop :=
  ∀ s : State, ∃ t, exec .daa s = .next t ∧ t.main.f.n = s.main.f.n ∧
    t = { s with main := { s.main with a := t.main.a, f := t.main.f }, fresh := t.fresh } ∧
    ∀ row ∈ daaTable, row.applies s.main.f s.main.a = true →
      t.main.a = s.main.a + row.addend ∧ t.main.f.c = row.carry ∧ t.main.f.s = t.main.a.getLsbD 7 ∧
        t.main.f.z = decide (t.main.a = 0) ∧ t.main.f.pv = evenOnes t.main.a

/-- ADC or SBC of two packed decimal bytes, then DAA, gives the packed decimal sum or difference modulo 100 and the decimal carry or
borrow in C: what the table of R228 is for. -/
def Obligations.DecimalAdjustGivesDecimalResults : Prop :=
  ∀ (s t u : State) (x y : Nat), x < 100 → y < 100 →
    let packed := fun (n : Nat) => BitVec.ofNat 8 (n / 10 * 16 + n % 10)
    let cin := s.main.f.c.toNat
    s.main.a = packed x →
    (exec (.adcAN (packed y)) s = .next t → exec .daa t = .next u →
      u.main.a = packed ((x + y + cin) % 100) ∧ u.main.f.c = decide (100 ≤ x + y + cin)) ∧
    (exec (.sbcAN (packed y)) s = .next t → exec .daa t = .next u →
      u.main.a = packed ((x + 200 - y - cin) % 100) ∧ u.main.f.c = decide (x < y + cin))

/-! ## 16-bit arithmetic -/

/-- ADD HL, ADD IX and ADD IY: the sum modulo 2^16, carries out of bits 11 and 15; S, Z and P/V stay (R271). -/
def Obligations.WordAdditionsKeepSignZeroOverflow : Prop :=
  ∀ s : State,
    let f := s.main.f
    let flags := fun (t : State) (a b : Word) =>
      t.main.f.are f.s f.z (decide (4095 < a.toNat % 4096 + b.toNat % 4096)) f.pv false (decide (65535 < a.toNat + b.toNat))
    (∀ ss, ∃ t, exec (.addHlSs ss) s = .next t ∧ t.hl.toNat = (s.hl.toNat + (s.rp ss).toNat) % 65536 ∧ flags t s.hl (s.rp ss) ∧
      t = { s with main := { s.main with h := t.main.h, l := t.main.l, f := t.main.f }, fresh := t.fresh }) ∧
    (∀ xx, ∃ t, exec (.addIxXx xx) s = .next t ∧ t.ix.toNat = (s.ix.toNat + (s.rpXx xx).toNat) % 65536 ∧ flags t s.ix (s.rpXx xx) ∧
      t = { s with ix := t.ix, main := { s.main with f := t.main.f }, fresh := t.fresh }) ∧
    ∀ yy, ∃ t, exec (.addIyYy yy) s = .next t ∧ t.iy.toNat = (s.iy.toNat + (s.rpYy yy).toNat) % 65536 ∧ flags t s.iy (s.rpYy yy) ∧
      t = { s with iy := t.iy, main := { s.main with f := t.main.f }, fresh := t.fresh }

/-- ADC HL and SBC HL: the sum or difference with the carry modulo 2^16, and every flag (R270, R275). -/
def Obligations.WordCarryArithmeticSetsEveryFlag : Prop :=
  ∀ (s : State) (ss : RegSs),
    let a := s.hl
    let b := s.rp ss
    let c := s.main.f.c.toNat
    let sets := fun (i : Instr) (res signed : Int) (h n cy : Bool) =>
      ∃ t, exec i s = .next t ∧ (t.hl.toNat : Int) = res % 65536 ∧
        t.main.f.are (decide (32768 ≤ res % 65536)) (decide (res % 65536 = 0)) h (decide (signed < -32768 ∨ 32767 < signed)) n cy ∧
        t = { s with main := { s.main with h := t.main.h, l := t.main.l, f := t.main.f }, fresh := t.fresh }
    sets (.adcHlSs ss) (a.toNat + b.toNat + c) (a.toInt + b.toInt + c) (decide (4095 < a.toNat % 4096 + b.toNat % 4096 + c)) false
        (decide (65535 < a.toNat + b.toNat + c)) ∧
      sets (.sbcHlSs ss) ((a.toNat : Int) - b.toNat - c) (a.toInt - b.toInt - c) (decide (a.toNat % 4096 < b.toNat % 4096 + c)) true
        (decide (a.toNat < b.toNat + c))

/-- INC and DEC of a pair, SP or an index register, and MLT: the result modulo 2^16, no flag, no other register (R272, R273, R274). -/
def Obligations.WordStepsAndMultiplyChangeNoFlag : Prop :=
  ∀ s : State,
    let sets := fun (i : Instr) (r : RegSs) (v : Nat) =>
      ∃ t, exec i s = .next t ∧ (t.rp r).toNat = v ∧ (∀ q, q ≠ r → t.rp q = s.rp q) ∧ t.main.a = s.main.a ∧
        t.main.f = s.main.f ∧ t = { s with main := t.main, sp := t.sp }
    let setsIndex := fun (i : Instr) (y : Idx) (v : Nat) =>
      ∃ t, exec i s = .next t ∧ (t.idx y).toNat = v ∧ (∀ q, q ≠ y → t.idx q = s.idx q) ∧ t = { s with ix := t.ix, iy := t.iy }
    (∀ r, sets (.incDd r) r (((s.rp r).toNat + 1) % 65536)) ∧ (∀ r, sets (.decDd r) r (((s.rp r).toNat + 65535) % 65536)) ∧
    (∀ y, setsIndex (.incXy y) y (((s.idx y).toNat + 1) % 65536)) ∧
    (∀ y, setsIndex (.decXy y) y (((s.idx y).toNat + 65535) % 65536)) ∧
    ∀ r, sets (.mltSs r) r ((s.rp r).toNat / 256 * ((s.rp r).toNat % 256))

/-! ## Rotates, shifts and bits -/

/-- The rotates and shifts of a register, and the four of A: result and carry as the arithmetic of R290 gives them; the CB forms set S,
Z and parity, the A forms keep them (R293 to R301, R304 to R306). -/
def Obligations.RegisterRotates : Prop :=
  ∀ s : State,
    let c := s.main.f.c.toNat
    let up := fun (v fill : Nat) => v * 2 % 256 + fill
    let down := fun (v fill : Nat) => v / 2 + 128 * fill
    let rotates := fun (i : Instr) (r : Reg8) (res : Nat) (cy : Bool) =>
      ∃ t, exec i s = .next t ∧ (t.r8 r).toNat = res ∧ (∀ q, q ≠ r → t.r8 q = s.r8 q) ∧
        t.main.f.are (decide (128 ≤ res)) (decide (res = 0)) false (evenOnes (BitVec.ofNat 8 res)) false cy ∧
        t = { s with main := t.main, fresh := t.fresh }
    let rotatesA := fun (i : Instr) (res : Nat) (cy : Bool) =>
      ∃ t, exec i s = .next t ∧ t.main.a.toNat = res ∧ t.main.f.are s.main.f.s s.main.f.z false s.main.f.pv false cy ∧
        t = { s with main := { s.main with a := t.main.a, f := t.main.f }, fresh := t.fresh }
    (∀ r,
      let v := (s.r8 r).toNat
      let out7 := decide (128 ≤ v)
      let out0 := decide (v % 2 = 1)
      rotates (.rlcR r) r (up v (v / 128)) out7 ∧ rotates (.rrcR r) r (down v (v % 2)) out0 ∧
      rotates (.rlR r) r (up v c) out7 ∧ rotates (.rrR r) r (down v c) out0 ∧
      rotates (.slaR r) r (up v 0) out7 ∧ rotates (.sraR r) r (down v (v / 128)) out0 ∧ rotates (.srlR r) r (down v 0) out0) ∧
    let v := s.main.a.toNat
    rotatesA .rlca (up v (v / 128)) (decide (128 ≤ v)) ∧ rotatesA .rrca (down v (v % 2)) (decide (v % 2 = 1)) ∧
      rotatesA .rla (up v c) (decide (128 ≤ v)) ∧ rotatesA .rra (down v c) (decide (v % 2 = 1))

/-- The rotates and shifts of a memory byte store the result where the byte was read and change no register but F; RLD and RRD move three
decimal digits round between A's low digit and the byte at HL, and A's high digit and C stay (R290, R297, R302, R85). -/
def Obligations.MemoryRotates : Prop :=
  ∀ s : State,
    let c := s.main.f.c.toNat
    let up := fun (v fill : Nat) => v * 2 % 256 + fill
    let down := fun (v fill : Nat) => v / 2 + 128 * fill
    let rotates := fun (i : Instr) (la : Word) (res : Nat) (cy : Bool) =>
      ∃ t, exec i s = .next t ∧ s.writes t false [(la, BitVec.ofNat 8 res)] ∧
        t.main.f.are (decide (128 ≤ res)) (decide (res = 0)) false (evenOnes (BitVec.ofNat 8 res)) false cy ∧
        { s with main := { s.main with f := t.main.f }, fresh := t.fresh }.onlyStores t
    let all := fun (la : Word) (rlc rrc rl rr sla sra srl : Instr) =>
      let v := (s.readByte la).toNat
      let out7 := decide (128 ≤ v)
      let out0 := decide (v % 2 = 1)
      rotates rlc la (up v (v / 128)) out7 ∧ rotates rrc la (down v (v % 2)) out0 ∧
      rotates rl la (up v c) out7 ∧ rotates rr la (down v c) out0 ∧
      rotates sla la (up v 0) out7 ∧ rotates sra la (down v (v / 128)) out0 ∧ rotates srl la (down v 0) out0
    all s.hl .rlcHl .rrcHl .rlHl .rrHl .slaHl .sraHl .srlHl ∧
      (∀ y d, all (s.indexed y d) (.rlcXd y d) (.rrcXd y d) (.rlXd y d) (.rrXd y d) (.slaXd y d) (.sraXd y d) (.srlXd y d)) ∧
      let a := s.main.a.toNat
      let m := (s.readByte s.hl).toNat
      let digits := fun (i : Instr) (a' m' : Nat) =>
        ∃ t, exec i s = .next t ∧ t.main.a.toNat = a' ∧ s.writes t false [(s.hl, BitVec.ofNat 8 m')] ∧
          t.main.f.are (decide (128 ≤ a')) (decide (a' = 0)) false (evenOnes (BitVec.ofNat 8 a')) false s.main.f.c ∧
          { s with main := { s.main with a := t.main.a, f := t.main.f }, fresh := t.fresh }.onlyStores t
      digits .rld (a / 16 * 16 + m / 16) (m % 16 * 16 + a % 16) ∧ digits .rrd (a / 16 * 16 + m % 16) (a % 16 * 16 + m / 16)

/-- BIT tests one bit into Z and changes no register; RES and SET change that one bit of a register, or of a memory byte where it was read,
and no flag (R291, R292, R303, R85). -/
def Obligations.BitOperationsChangeOneBit : Prop :=
  ∀ (s : State) (b : BitVec 3),
    let f := s.main.f
    let changed := fun (v w : Byte) (bit : Bool) => ∀ k, k < 8 → w.getLsbD k = if k = b.toNat then bit else v.getLsbD k
    let tests := fun (i : Instr) (v : Byte) =>
      ∃ t, exec i s = .next t ∧ t.main.f.are f.s (!v.getLsbD b.toNat) true f.pv false f.c ∧
        t = { s with main := { s.main with f := t.main.f }, fresh := t.fresh }
    let writes := fun (i : Instr) (r : Reg8) (bit : Bool) =>
      ∃ t, exec i s = .next t ∧ changed (s.r8 r) (t.r8 r) bit ∧
        (∀ q, q ≠ r → t.r8 q = s.r8 q) ∧ t.main.f = f ∧ t = { s with main := t.main }
    let writesMemory := fun (i : Instr) (la : Word) (bit : Bool) =>
      ∃ t v, exec i s = .next t ∧ changed (s.readByte la) v bit ∧ s.writes t false [(la, v)] ∧ s.onlyStores t
    (∀ r, tests (.bitR b r) (s.r8 r)) ∧ tests (.bitHl b) (s.readByte s.hl) ∧
    (∀ y d, tests (.bitXd b y d) (s.readByte (s.indexed y d))) ∧
    (∀ r, writes (.resR b r) r false) ∧ (∀ r, writes (.setR b r) r true) ∧
    writesMemory (.resHl b) s.hl false ∧ (∀ y d, writesMemory (.resXd b y d) (s.indexed y d) false) ∧
      writesMemory (.setHl b) s.hl true ∧ ∀ y d, writesMemory (.setXd b y d) (s.indexed y d) true

/-! ## Control -/

/-- The jumps change PC alone, DJNZ B too. A condition, of a jump, a call or a return, names one flag, by the upper bits of its code, and
the value it must have, by the lowest; a call or return whose condition is true is the plain one, and otherwise nothing happens (R330,
R333 to R337, R130). -/
def Obligations.JumpsChangeOnlyTheProgramCounter : Prop :=
  ∀ s : State,
    let f := s.main.f
    let taken := fun (code : Nat) => [f.z, f.c, f.pv, f.s].getD (code / 2) false == (code % 2 == 1)
    let goes := fun (i : Instr) (target : Int) => ∃ t, exec i s = .next t ∧ (t.pc.toNat : Int) = target ∧ t = { s with pc := t.pc }
    let here : Int := s.pc.toNat
    let rel := fun (e2 : Byte) => (here + e2.toInt) % 65536
    (∀ mn : Word, goes (.jpMn mn) mn.toNat) ∧ goes .jpHl s.hl.toNat ∧ (∀ y, goes (.jpXy y) (s.idx y).toNat) ∧
    (∀ (cc : Cond) (mn : Word), goes (.jpCcMn cc mn) (if taken cc.code.toNat then mn.toNat else here)) ∧
    (∀ e2, goes (.jr e2) (rel e2)) ∧ (∀ (cc : CondJr) e2, goes (.jrCc cc e2) (if taken cc.code.toNat then rel e2 else here)) ∧
    (∀ (cc : Cond) (mn : Word), exec (.callCcMn cc mn) s = if taken cc.code.toNat then exec (.callMn mn) s else .next s) ∧
    (∀ cc : Cond, exec (.retCc cc) s = if taken cc.code.toNat then exec .ret s else .next s) ∧
    ∀ e2, ∃ t, exec (.djnz e2) s = .next t ∧ t.main.b = s.main.b - 1 ∧
      (t.pc.toNat : Int) = (if s.main.b = 1 then here else rel e2) ∧
      t = { s with main := { s.main with b := t.main.b }, pc := t.pc }

/-- CALL, CALL cc when taken, and RST push the address of the next instruction and go to their target; CALL cc not taken changes
nothing (R331, R332, R342). -/
def Obligations.CallsPushTheNextAddress : Prop :=
  ∀ s : State,
    let f := s.main.f
    let taken := fun (code : Nat) => [f.z, f.c, f.pv, f.s].getD (code / 2) false == (code % 2 == 1)
    let calls := fun (i : Instr) (target : Nat) =>
      ∃ t, exec i s = .next t ∧ s.writes t true (s.pushed s.pc) ∧ t.pc.toNat = target ∧
        { s with sp := s.sp - 2, pc := t.pc }.onlyStores t
    (∀ mn : Word, calls (.callMn mn) mn.toNat) ∧ (∀ v : BitVec 3, calls (.rst v) (8 * v.toNat)) ∧
      ∀ (cc : Cond) (mn : Word),
        if taken cc.code.toNat then calls (.callCcMn cc mn) mn.toNat else exec (.callCcMn cc mn) s = .next s

/-- The returns load PC from the stack and move SP up by two. RETN also restores IFF1 from IFF2; RETI signals, and in the MPU clears the
highest-priority Interrupt-Under-Service bit that is set (R338 to R341, R544). -/
def Obligations.ReturnsPopTheProgramCounter : Prop :=
  ∀ s : State,
    let f := s.main.f
    let taken := fun (code : Nat) => [f.z, f.c, f.pv, f.s].getD (code / 2) false == (code % 2 == 1)
    let back := { s with pc := s.readWord s.sp, sp := s.sp + 2 }
    let surpassed := fun (k : Nat) =>
      (List.range 16).any (fun j => s.irq.ius.getLsbD j && higher s.params.intPriorityOrder j k)
    exec .ret s = .next back ∧
    (∀ cc : Cond, exec (.retCc cc) s = .next (if taken cc.code.toNat then back else s)) ∧
    exec .retn s = .next { back with iff1 := s.iff2 } ∧
    ∃ t, exec .reti s = .next t ∧ t = { back with irq := { s.irq with ius := t.irq.ius }, trace := .retiTran :: s.trace } ∧
      (s.params.variant = .cpu → t.irq.ius = s.irq.ius) ∧
      (s.params.variant = .mpu → ∀ k, k < 16 → t.irq.ius.getLsbD k = (s.irq.ius.getLsbD k && surpassed k))

/-! ## Block instructions -/

/-- LDI, LDD, LDIR and LDDR: one byte from (HL) to (DE), both pointers moved, BC down by one; P/V is "the new BC is not 0"; the
repeating forms go back to their own first byte while it is not (R360, R365 to R368). -/
def Obligations.BlockMoves : Prop :=
  ∀ s : State,
    let moves := fun (i : Instr) (delta : Word) (again : Bool) =>
      ∃ t, exec i s = .next t ∧ s.writes t false [(s.de, s.readByte s.hl)] ∧
        t.hl = s.hl + delta ∧ t.de = s.de + delta ∧ t.bc = s.bc - 1 ∧ t.main.a = s.main.a ∧
        t.main.f.are s.main.f.s s.main.f.z false (decide (s.bc ≠ 1)) false s.main.f.c ∧
        t.pc = (if again ∧ s.bc ≠ 1 then s.pc - 2 else s.pc) ∧
        { s with main := t.main, pc := t.pc, fresh := t.fresh }.onlyStores t
    moves .ldi 1 false ∧ moves .ldd (-1) false ∧ moves .ldir 1 true ∧ moves .lddr (-1) true

/-- CPI, CPD, CPIR and CPDR: A compared with the byte at HL, HL moved, BC down by one; the repeating forms go on until BC is 0 or the
bytes are equal. No memory is written (R360 to R364). -/
def Obligations.BlockSearches : Prop :=
  ∀ s : State,
    let m := s.readByte s.hl
    let searches := fun (i : Instr) (delta : Word) (again : Bool) =>
      ∃ t, exec i s = .next t ∧ t.hl = s.hl + delta ∧ t.bc = s.bc - 1 ∧
        t.main.f.are ((s.main.a - m).getLsbD 7) (decide (s.main.a = m)) (decide (s.main.a.toNat % 16 < m.toNat % 16))
          (decide (s.bc ≠ 1)) true s.main.f.c ∧
        t.pc = (if again ∧ s.bc ≠ 1 ∧ s.main.a ≠ m then s.pc - 2 else s.pc) ∧
        t = { s with
          main := { s.main with h := t.main.h, l := t.main.l, b := t.main.b, c := t.main.c, f := t.main.f }
          pc := t.pc
          fresh := t.fresh }
    searches .cpi 1 false ∧ searches .cpd (-1) false ∧ searches .cpir 1 true ∧ searches .cpdr (-1) true

/-! ## Input and output -/

/-- The input instructions make one read of their port, and take the byte that read returned: IN A,(n) sets no flag, IN r,(C) and IN0
set S, Z and parity, TSTIO sets the flags of the conjunction and writes no register (R381, R382, R383, R399). The output instructions
make one write and change nothing inside the machine (R394, R395, R396). That the byte read is the next of the queue `ioIn`, or a free
value when it is empty, is the model's DESIGN CHOICE (log 11). -/
def Obligations.PortsAreAccessedOnce : Prop :=
  ∀ s : State,
    let reads := fun (i : Instr) (port : Word) (after : Byte → State → Prop) =>
      ∃ v t, exec i s = .next t ∧ (∀ w ws, s.ioIn = w :: ws → v = w) ∧ after v t ∧
        t = { s with main := t.main, trace := .ioRead port v :: s.trace, ioIn := s.ioIn.tail, fresh := t.fresh }
    let into := fun (r : Reg8) (v : Byte) (t : State) => t.r8 r = v ∧ ∀ q, q ≠ r → t.r8 q = s.r8 q
    let withFlags := fun (r : Reg8) (v : Byte) (t : State) =>
      into r v t ∧ t.main.f.are (v.getLsbD 7) (decide (v = 0)) false (evenOnes v) false s.main.f.c
    (∀ n, reads (.inAN n) (s.main.a ++ n) (fun v t => into .a v t ∧ t.main.f = s.main.f)) ∧
    (∀ r, reads (.inRC r) s.bc (withFlags r)) ∧ (∀ r n, reads (.in0RN r n) (0#8 ++ n) (withFlags r)) ∧
    (∀ n, reads (.tstioN n) (0#8 ++ s.main.c) (fun v t => (∀ q, t.r8 q = s.r8 q) ∧
      t.main.f.are ((v &&& n).getLsbD 7) (decide (v &&& n = 0)) true (evenOnes (v &&& n)) false false)) ∧
    let writes := fun (i : Instr) (port : Word) (v : Byte) =>
      exec i s = .next { s with trace := .ioWrite port v :: s.trace }
    (∀ n, writes (.outNA n) (s.main.a ++ n) s.main.a) ∧ (∀ r, writes (.outCR r) s.bc (s.r8 r)) ∧
      ∀ n r, writes (.out0NR n r) (0#8 ++ n) (s.r8 r)

/-- INI, IND, INIR and INDR: the port is formed with the old B, the byte read is stored at HL, HL moves, B goes down by one; the
repeating forms go on while the new B is not 0 (R360, R384 to R387). That the byte read is the next of the queue `ioIn`, or a free value
when it is empty, is the model's DESIGN CHOICE (log 11). -/
def Obligations.BlockInputs : Prop :=
  ∀ s : State,
    let inputs := fun (i : Instr) (delta : Word) (again : Bool) =>
      ∃ v t, exec i s = .next t ∧ (∀ w ws, s.ioIn = w :: ws → v = w) ∧ s.writes t false [(s.hl, v)] ∧
        t.hl = s.hl + delta ∧ t.main.b = s.main.b - 1 ∧
        t.main.f.are s.main.f.s (decide (s.main.b = 1)) s.main.f.h s.main.f.pv true s.main.f.c ∧
        t.pc = (if again ∧ s.main.b ≠ 1 then s.pc - 2 else s.pc) ∧
        { s with
          main := { s.main with b := t.main.b, h := t.main.h, l := t.main.l, f := t.main.f }
          pc := t.pc
          trace := .ioRead s.bc v :: s.trace
          ioIn := s.ioIn.tail
          fresh := t.fresh }.onlyStores t
    inputs .ini 1 false ∧ inputs .ind (-1) false ∧ inputs .inir 1 true ∧ inputs .indr (-1) true

/-- OUTI, OUTD, OTIR and OTDR: the byte at HL goes to the port formed with the old B, HL moves, B goes down by one. The flags are the
printed ones: OUTD and OTDR set Z and N, OUTI and OTIR set P/V from the new B and clear N (R360, R390, R393, R397, R398). -/
def Obligations.BlockOutputs : Prop :=
  ∀ s : State,
    let f := s.main.f
    let last := decide (s.main.b = 1)
    let outputs := fun (i : Instr) (delta : Word) (again z pv n : Bool) =>
      ∃ t, exec i s = .next t ∧ t.hl = s.hl + delta ∧ t.main.b = s.main.b - 1 ∧ t.main.f.are f.s z f.h pv n f.c ∧
        t.pc = (if again ∧ s.main.b ≠ 1 then s.pc - 2 else s.pc) ∧
        t = { s with
          main := { s.main with b := t.main.b, h := t.main.h, l := t.main.l, f := t.main.f }
          pc := t.pc
          trace := .ioWrite s.bc (s.readByte s.hl) :: s.trace
          fresh := t.fresh }
    outputs .outd (-1) false last f.pv true ∧ outputs .otdr (-1) true last f.pv true ∧
      outputs .outi 1 false f.z last false ∧ outputs .otir 1 true f.z last false

/-- OTIM, OTDM, OTIMR and OTDMR: the byte at HL goes to port C of page 0, HL and C move together, B goes down by one and sets S, Z, H
and parity; N is the top bit of the byte (R360, R388, R389, R391, R392). -/
def Obligations.BlockMultipleOutputs : Prop :=
  ∀ s : State,
    let m := s.readByte s.hl
    let b := s.main.b - 1
    let outputs := fun (i : Instr) (deltaHl : Word) (deltaC : Byte) (again : Bool) =>
      ∃ t, exec i s = .next t ∧ t.hl = s.hl + deltaHl ∧ t.main.c = s.main.c + deltaC ∧ t.main.b = b ∧
        t.main.f.are (b.getLsbD 7) (decide (s.main.b = 1)) (decide (s.main.b.toNat % 16 = 0)) (evenOnes b) (m.getLsbD 7) s.main.f.c ∧
        t.pc = (if again ∧ s.main.b ≠ 1 then s.pc - 2 else s.pc) ∧
        t = { s with
          main := { s.main with b := t.main.b, c := t.main.c, h := t.main.h, l := t.main.l, f := t.main.f }
          pc := t.pc
          trace := .ioWrite (0#8 ++ s.main.c) m :: s.trace
          fresh := t.fresh }
    outputs .otim 1 1 false ∧ outputs .otdm (-1) (-1) false ∧ outputs .otimr 1 1 true ∧ outputs .otdmr (-1) (-1) true

/-! ## CPU control and the MPU instructions -/

/-- The CPU control instructions: the flip-flops, the interrupt mode and the run state they name, and no flag (R420 to R425). SLP also
samples the request, against which a later edge is seen: that sample is the model's own field `reqSeen` (log 32). -/
def Obligations.CpuControlSetsWhatItNames : Prop :=
  ∀ s : State,
    exec .di s = .next { s with iff1 := false, iff2 := false } ∧ exec .ei s = .next { s with iff1 := true, iff2 := true } ∧
    exec .im0 s = .next { s with im := .im0 } ∧ exec .im1 s = .next { s with im := .im1 } ∧
    exec .im2 s = .next { s with im := .im2 } ∧ exec .nop s = .next s ∧ exec .halt s = .next { s with runState := .halt } ∧
    exec .slp s = .next { s with runState := .sleep, reqSeen := s.intReq }

/-- LDM (HL),MMU and LDM (HL),MMUH store the sixteen low or high bytes of the buffer at HL; LDM MMU,(HL) and LDM MMUH,(HL) load one half
of each buffer register from memory at HL, read through the registers in force; LDMS then exchanges the two sets. All five move HL on
by 16 and hold off the next boundary. SWAP only exchanges the sets (R441 to R444). -/
def Obligations.MmuBlockTransfers : Prop :=
  ∀ s : State, s.isMpu = true →
    let m := fun (k : Fin 16) => s.readByte (s.hl + BitVec.ofNat 16 k.val)
    let lows := fun (v : Vector Word 16) => ∀ k : Fin 16, v[k].toNat = s.mmu.buffer[k].toNat / 256 * 256 + (m k).toNat
    let highs := fun (v : Vector Word 16) => ∀ k : Fin 16, v[k].toNat = (m k).toNat * 256 + s.mmu.buffer[k].toNat % 256
    let loads := fun (i : Instr) (after : Mmu → Prop) =>
      ∃ t, exec i s = .next t ∧ after t.mmu ∧ t.hl = s.hl + 16 ∧
        t = { s with main := { s.main with h := t.main.h, l := t.main.l }, mmu := t.mmu, noSample := true }
    loads .ldmMmuHl (fun u => u.active = s.mmu.active ∧ lows u.buffer) ∧
      loads .ldmMmuhHl (fun u => u.active = s.mmu.active ∧ highs u.buffer) ∧
      loads .ldmsMmuHl (fun u => lows u.active ∧ u.buffer = s.mmu.active) ∧
      exec .swap s = .next { s with mmu := ⟨s.mmu.buffer, s.mmu.active⟩ } ∧
      let stores := fun (i : Instr) (half : Word → Byte) =>
        ∃ t, exec i s = .next t ∧ t.hl = s.hl + 16 ∧
          s.writes t false ((List.finRange 16).map (fun k => (s.hl + BitVec.ofNat 16 k.val, half s.mmu.buffer[k]))) ∧
          { s with main := { s.main with h := t.main.h, l := t.main.l }, noSample := true }.onlyStores t
      stores .ldmHlMmu (fun w => w.extractLsb' 0 8) ∧ stores .ldmHlMmuh (fun w => w.extractLsb' 8 8)

/-- LDM (HL),SYS stores the System Status Block at HL, moves HL on by 16, clears what is "since the last read", pulses `ext_stat_rd` and
holds off the next boundary (R447, R560 to R567, R569). If a write is inhibited the trap is pending and the bytes at offsets 1 to 5 and
TRAP_WP are not stated (UD7), nor is bit 1 of the RTI byte while `rti_default` is 0. How the other bits of that byte follow from the
generator is the model's reading (logs 40 and 41). -/
def Obligations.SystemStatusReadClears : Prop :=
  ∀ s : State, s.isMpu = true →
    let y := s.sys
    let at' := fun (k : Fin 16) => s.hl + BitVec.ofNat 16 k.val
    let reset : Nat := 128 * y.rstFatal.toNat + 64 * y.rstFault.toNat + 32 * y.rstWdt.toNat + 16 * y.rstPwron.toNat +
      8 * (s.pins.resetBus.getLsbD 1).toNat + 4 * y.rb1Trans.toNat + 2 * (s.pins.resetBus.getLsbD 0).toNat + y.rb0Trans.toNat
    let trap : Nat := 8 * y.trapWp.toNat + 4 * y.trapXp.toNat + 2 * y.trapI3.toNat + y.trapI2.toNat
    let g := s.rti
    let d := s.pins.rtiDivisor.toNat
    let dflt := s.pins.rtiDefault.toNat
    let lost := decide (g.edges = 2 ∧ 2 * g.period < g.since)
    let onDefault := decide (dflt ≠ 0) && !(g.follows && (decide (d = 1) || (decide (2 ≤ d) && !lost)))
    let rti := fun (short : Bool) => 32 * s.pins.refClock.toNat + 16 * g.tooShort.toNat + 8 * (decide (g.edges = 2) && !lost).toNat +
      4 * (g.synced && decide (g.since ≤ 3 * g.period)).toNat + 2 * short.toNat + onDefault.toNat
    let block := fun (short : Bool) => #v[reset, trap, y.trapLa.toNat % 256, y.trapLa.toNat / 256, y.trapPa.toNat % 256,
      y.trapPa.toNat / 256, y.faultLa.toNat % 256, y.faultLa.toNat / 256, y.faultPa.toNat % 256, y.faultPa.toNat / 256, 0, 0,
      y.drqTo.toNat, y.waitTo.toNat, rti short, s.pins.extStat.toNat]
    ∃ t short, exec .ldmHlSys s = .next t ∧ (dflt ≠ 0 → short = decide (dflt < 1024)) ∧ t.hl = s.hl + 16 ∧
      (∀ k, t.mem.read (s.phys (at' k)) = if s.inhibited (at' k) then s.mem.read (s.phys (at' k)) else t.mem.read (s.phys (at' k))) ∧
      (∀ k, s.inhibited (at' k) = false → (k.val = 0 ∨ 5 < k.val ∨ ∀ j, j < k → s.inhibited (at' j) = false) →
        (t.mem.read (s.phys (at' k))).toNat = (block short)[k]) ∧
      (∀ a, (∀ k, a ≠ s.phys (at' k)) → t.mem.read a = s.mem.read a) ∧
      t.sys = { t.sys with
        rstFatal := false, rstFault := false, rstWdt := false, rstPwron := false, rb1Trans := false, rb0Trans := false
        trapXp := false, trapI3 := false, trapI2 := false, faultLa := y.faultLa, faultPa := y.faultPa, drqTo := 0, waitTo := 0 } ∧
      ((∀ k, s.inhibited (at' k) = false) →
        t.sys.trapWp = false ∧ t.sys.trapLa = y.trapLa ∧ t.sys.trapPa = y.trapPa ∧ t.wpPending = s.wpPending) ∧
      (∀ k, s.inhibited (at' k) = true → t.wpPending = true ∧
        ((∀ j, k < j → s.inhibited (at' j) = false) →
          t.sys.trapLa = at' k ∧ t.sys.trapPa = (s.translate (at' k)).extractLsb' 12 16)) ∧
      t = { s with
        main := { s.main with h := t.main.h, l := t.main.l }
        mem := t.mem
        sys := t.sys
        wpPending := t.wpPending
        noSample := true
        trace := .extStatRd :: s.trace
        fresh := t.fresh }

/-! ## Traps, interrupts, reset causes and the bus -/

/-- An undefined encoding traps: the address of the prefix byte plus one, or plus two for the four-byte form, is pushed, control goes to
0x0000, the MPU records the trap and its address, and every register but SP and PC keeps its value (R501, R505, R506). -/
def Obligations.UndefinedEncodingsTrap : Prop :=
  ∀ s : State, s.Sequential → s.MayFetch →
    let at' := decode s.params.variant (s.readByte s.pc) (s.readByte (s.pc + 1)) (s.readByte (s.pc + 2)) (s.readByte (s.pc + 3))
    let traps := fun (y : SysStatus) (stacked : Word) (pin : Signal) =>
      let u := { s with sys := if s.isMpu then y else s.sys }
      ∃ t, step s = .next t ∧ u.writes t true (s.pushed stacked) ∧
        { s with
          sp := s.sp - 2
          pc := 0x0000
          trace := pin :: s.trace
          prefetched := none
          repeating := none }.onlyStores t
    let page := fun (la : Word) => (s.translate la).extractLsb' 12 16
    (at' = .illegal2 →
      traps { s.sys with trapI2 := true, trapLa := s.pc, trapPa := page s.pc } (s.pc + 1) .inst2Trap) ∧
    ∀ y d, at' = .illegal3 y d →
      traps { s.sys with trapI3 := true, trapLa := s.pc + 2, trapPa := page (s.pc + 2) } (s.pc + 2) .inst3Trap

/-- The first byte of an instruction in an execute-inhibited region is replaced by RST 0: the trap and its address are recorded, the
address after that byte is pushed, and in Page 0 it is a Fatal Error, which requests a reset (R510). A NOSAMPLE boundary makes no
difference (R440). -/
def Obligations.ExecuteInhibitTraps : Prop :=
  ∀ s : State, (s.Sequential ∨ s.HeldOff) → s.wpPending = false → s.staleBuffer = false → s.staleRepeat = false →
    s.execInh (s.translate s.pc) = true →
    let page0 := decide (s.pc.toNat < 4096)
    let u := { s with
      sys := { s.sys with
        trapXp := true
        trapLa := s.pc
        trapPa := (s.translate s.pc).extractLsb' 12 16
        rstFatal := s.sys.rstFatal || page0 }
      fatalDetect := s.fatalDetect || page0
      resetReq := page0 }
    ∃ t, step s = .next t ∧ u.writes t true (s.pushed (s.pc + 1)) ∧
      { s with sp := s.sp - 2, pc := 0x0000, noSample := false, script := [], prefetched := none, repeating := none }.onlyStores t

/-- A pending Write Protect trap replaces the next instruction by RST 0, whatever stands at PC, and is pending no more unless a push is
inhibited again. If that fetch is execute-inhibited too there is still one RST 0; TRAP_WP, TRAP_XP, TRAP_LA and TRAP_PA are then not
stated (UD8; free values, log 16), every other latch is as without it, and in Page 0 it is a Fatal Error (R511, R503, R512). The trap is
not held off by NOSAMPLE: at such a boundary it comes first, whatever asks for the bus or for an interrupt (R440, R611). -/
def Obligations.PendingWriteProtectTraps : Prop :=
  ∀ s : State, (s.Sequential ∨ s.HeldOff) → s.isMpu = true → s.wpPending = true →
    let both := s.execInh (s.translate s.pc)
    let fatal := both && decide (s.pc.toNat < 4096)
    ∃ t y, step s = .next t ∧ s.stored t (s.pushed (s.pc + 1)) ∧
      { s with
        sp := s.sp - 2
        pc := 0x0000
        noSample := false
        script := []
        prefetched := none
        repeating := none
        fresh := t.fresh }.onlyStores t ∧
      y = { s.sys with
        trapWp := y.trapWp, trapXp := y.trapXp, trapLa := y.trapLa, trapPa := y.trapPa, rstFatal := s.sys.rstFatal || fatal } ∧
      (both = false → y = s.sys ∧ t.fresh = s.fresh) ∧
      { s with
        sys := y
        wpPending := false
        fatalDetect := s.fatalDetect || fatal
        resetReq := fatal }.protection t true (s.pushed (s.pc + 1))

/-- A latched non-maskable request is acknowledged at the boundary, before any maskable one, whether the core runs or is stopped: PC is
pushed, IFF1 cleared and IFF2 kept, and control goes to `NMI_ADDR` (R530, R502). -/
def Obligations.NonMaskableAcknowledge : Prop :=
  ∀ s : State, s.Undisturbed → s.noSample = false → s.nmiPending = true →
    ∃ t, step s = .next t ∧ s.writes t true (s.pushed s.pc) ∧
      { s with
        nmiPending := false
        runState := .run
        iff1 := false
        sp := s.sp - 2
        pc := s.pins.nmiAddr
        trace := .nmiackTran :: s.trace
        prefetched := none
        repeating := none }.onlyStores t

/-- A maskable request with IFF1 set is acknowledged: PC is pushed, both flip-flops are cleared, and control goes where the interrupt
mode says; in the MPU the highest-priority request gives the vector, loses its latch and sets its Interrupt-Under-Service bit (R532 to
R535, R543, R545). -/
def Obligations.MaskableAcknowledge : Prop :=
  ∀ s : State, s.Undisturbed → s.noSample = false → s.nmiPending = false → s.intReq = true → s.iff1 = true →
    ∃ (t : State) (v : Byte) (irq : IrqController) (pins : List Signal), step s = .next t ∧ s.writes t true (s.pushed s.pc) ∧
      (s.params.variant = .cpu → v = s.pins.ivecDataIn ∧ irq = s.irq ∧ pins = [.iackTran]) ∧
      (s.params.variant = .mpu → ∃ k, k < 16 ∧ s.topRequest = some k ∧
        (s.im = .im2 → v.toNat = 32 * s.pins.ivecOffset.toNat + 2 * k) ∧
        (s.im ≠ .im2 → v.toNat = 199 + 8 * s.pins.ivecOffset.toNat) ∧
        (∀ j, j < 16 → irq.latch.getLsbD j = (s.irq.latch.getLsbD j && decide (j ≠ k))) ∧
        (∀ j, j < 16 → irq.ius.getLsbD j = (s.irq.ius.getLsbD j || decide (j = k))) ∧
        pins = [.iackTran, .intAckBus (BitVec.twoPow 16 k)]) ∧
      (s.im = .im0 → t.pc.toNat = v.toNat / 8 % 8 * 8) ∧ (s.im = .im1 → t.pc = 0x0038) ∧
      (s.im = .im2 → t.pc = s.readWord (s.i ++ v)) ∧
      { s with
        runState := .run
        iff1 := false
        iff2 := false
        sp := s.sp - 2
        pc := t.pc
        irq := irq
        trace := pins ++ s.trace
        prefetched := none
        repeating := none }.onlyStores t

/-- The interrupt controller asks for the highest-priority input that is latched, enabled, and not held back by an
Interrupt-Under-Service bit of its own or of a higher priority; it asks for none only when there is no such input (R542). -/
def Obligations.ControllerPicksTheHighestEligible : Prop :=
  ∀ s : State,
    let beats := fun (j i : Nat) => match s.params.intPriorityOrder with | .lowIndexHigh => j < i | .highIndexHigh => i < j
    let blocked := fun (i : Nat) => ∃ j, j < 16 ∧ s.irq.ius.getLsbD j = true ∧ (j = i ∨ beats j i)
    let eligible := fun (i : Nat) => s.irq.latch.getLsbD i = true ∧ s.pins.intReqEn.getLsbD i = true ∧ ¬blocked i
    (∀ k, s.topRequest = some k ↔ k < 16 ∧ eligible k ∧ ∀ j, j < 16 → eligible j → j ≠ k → beats k j) ∧
      (s.topRequest = none ↔ ∀ k, k < 16 → ¬eligible k)

/-- A bus grant is the whole step: no core register, flip-flop, latch or MMU register changes, interrupts wait, and memory changes only
where the bus master wrote, each address holding what was written there last. In the MPU the master is the request of highest priority,
whichever had the bus before, and `dma_ack_bus` names it alone (R570, R572, R18 item 3); which end of the bus that is, is a parameter of
the model's own (log 25). -/
def Obligations.BusGrantChangesOnlyMemory : Prop :=
  ∀ (s : State) (g : DmaRequest) (m : Fin 8), s.script = [⟨[], some g⟩] → s.resetReq = false → s.upset = false →
    (s.isMpu = true → s.noSample = false ∧ s.dma.idle = 0 ∧ s.dma.coreTurn = false) →
    let beats := fun (j i : Fin 8) => match s.params.dmaPriorityOrder with | .lowIndexHigh => j < i | .highIndexHigh => i < j
    g.requests.getLsbD m.val = true →
    (s.isMpu = true → ∀ j : Fin 8, g.requests.getLsbD j.val = true → j ≠ m → beats m j) → (s.isMpu = false → m = 0) →
    ∃ t, step s = .next t ∧
      t.main = s.main ∧ t.alt = s.alt ∧ t.ix = s.ix ∧ t.iy = s.iy ∧ t.sp = s.sp ∧ t.pc = s.pc ∧ t.i = s.i ∧ t.r = s.r ∧
      t.iff1 = s.iff1 ∧ t.iff2 = s.iff2 ∧ t.im = s.im ∧ t.runState = s.runState ∧ t.mmu = s.mmu ∧ t.irq = s.irq ∧
      t.wpPending = s.wpPending ∧ (s.nmiPending = true → t.nmiPending = true) ∧ Signal.dmaAck ∈ t.trace ∧
      (s.isMpu = true → Signal.dmaAckBus (BitVec.twoPow 8 m.val) ∈ t.trace ∧ (t.dma.dus = BitVec.twoPow 8 m.val ∨ t.dma.dus = 0)) ∧
      (∀ a, (∀ w ∈ g.writes[m], a ≠ s.busAddress w.1) → t.mem.read a = s.mem.read a) ∧
      ∀ before w after, g.writes[m] = before ++ w :: after → (∀ x ∈ after, s.busAddress x.1 ≠ s.busAddress w.1) →
        t.mem.read (s.busAddress w.1) = w.2

/-- WDARM starts the 256 clocks of the Arm Timer unless it runs; WDRES while it runs clears the Watch-Dog count, captures the limit and
enables the timer (D27), and otherwise does nothing. A Watch-Dog that is not served in time resets the machine: when the clocks since it
was served reach the period, `wdt_timeout` pulses once and the step is a user reset, in whatever state the core stands, that leaves the
cause recorded and the timer disabled. Earlier the count just runs on, and past the period it pulses no more; with `reset_bus` at rest and
no bus grant to time out nothing else is recorded (R445, R446, R576 to R578, R590, R600, R18 item 1). That clocks pass by an event, and
that the reset is taken in the same step, are the model's choices (logs 22 and 36). -/
def Obligations.WatchDogMustBeServed : Prop :=
  ∀ s : State, s.isMpu = true →
    exec .wdarm s = .next { s with wdt := { s.wdt with arm := if s.wdt.arm = 0 then 256 else s.wdt.arm } } ∧
    exec .wdres s = .next (if s.wdt.arm = 0 then s else { s with wdt := ⟨true, 0, s.pins.wdtLim, s.wdt.arm⟩ }) ∧
    ∀ n : Nat, s.script = [⟨[.clocks n], none⟩] → s.wdt.enabled = true →
      let period := (s.wdt.limit.toNat + 1) * 2 ^ 20
      let u := s.afterEvents
      (s.wdt.count < period → period ≤ s.wdt.count + n →
        ∃ t, step s = .next t ∧ t.pc = 0x0000 ∧ t.runState = .run ∧ t.sys.rstWdt = true ∧
          t.trace.count .wdtTimeout = s.trace.count .wdtTimeout + 1 ∧
          t.wdt.enabled = false ∧ t.resetReq = false ∧ t.main = s.main ∧ t.mem = s.mem) ∧
        (period ≤ s.wdt.count ∨ s.wdt.count + n < period →
          u.wdt = ⟨true, s.wdt.count + n, s.wdt.limit, s.wdt.arm - n⟩ ∧ u.sys.rstWdt = s.sys.rstWdt ∧
            u.trace.count .wdtTimeout = s.trace.count .wdtTimeout ∧
            (s.pins.resetBus.getLsbD 1 = s.resetFilter.line1.level → s.pins.resetBus.getLsbD 0 = s.resetFilter.line0.level →
              u.resetReq = s.resetReq ∧ (s.dma.dus = 0 → u.sys = s.sys)))

/-! ## Events of the environment -/

/-- What new pin levels do before the boundary. In the MPU a request latch is 0 while its input is disabled; while it is enabled a rising
input sets it and nothing else changes it; an input that is enabled while it stays inactive has no latch. Divisor 0 ends the RTI
generator's synchronised mode at once, and no divisor selects it. A change of `ref_clock` or of a `reset_bus` input starts its filter
again. A level of a `reset_bus` input, of either polarity, that stands for eleven clocks sets its status bit and requests a reset; before
ten it does neither, and at exactly ten it may or may not; where neither input passes, no reset is requested unless the Watch-Dog
reaches its period in those clocks (R540, R541, R578, R581, R590, R591, C11). In the CPU variant the pins have no latch.
That levels change and clocks pass by events, in which enabling an active input leaves a free bit, is the model's form (logs 12, 18, 22),
and so is what else of the RTI generator a change of the divisor leaves or ends (log 40). -/
def Obligations.PinChangesReachTheirLatches : Prop :=
  ∀ (s : State) (d : Option DmaRequest) (rest : List Tick),
    let t := s.afterEvents
    (∀ p : Pins, s.script = ⟨[.pins p], d⟩ :: rest →
      let now := p.rtiDivisor.toNat
      let line := fun (k : Nat) (f : LevelFilter) =>
        if p.resetBus.getLsbD k = s.pins.resetBus.getLsbD k then f else { f with held := 0 }
      (s.isMpu = false → t = { s with pins := p, script := rest }) ∧
      (s.isMpu = true →
        (∀ k, k < 16 →
          (p.intReqEn.getLsbD k = false → t.irq.latch.getLsbD k = false) ∧
          (s.pins.intReqEn.getLsbD k = true → p.intReqEn.getLsbD k = true →
            t.irq.latch.getLsbD k = (s.irq.latch.getLsbD k || (!s.pins.intReqBus.getLsbD k && p.intReqBus.getLsbD k))) ∧
          (s.pins.intReqEn.getLsbD k = false → s.pins.intReqBus.getLsbD k = false → p.intReqBus.getLsbD k = false →
            t.irq.latch.getLsbD k = false)) ∧
        t = { s with
          irq := { s.irq with latch := t.irq.latch }
          pins := p
          rti := { s.rti with
            held := if p.refClock = s.pins.refClock then s.rti.held else 0
            follows := s.rti.follows && decide (now = 1 ∨ (2 ≤ now ∧ 2 ≤ s.pins.rtiDivisor.toNat))
            synced := s.rti.synced && decide (2 ≤ now) }
          resetFilter := ⟨line 1 s.resetFilter.line1, line 0 s.resetFilter.line0⟩
          script := rest
          fresh := t.fresh })) ∧
    (∀ n, s.script = ⟨[.clocks n], d⟩ :: rest → s.isMpu = true →
      let period := (s.wdt.limit.toNat + 1) * 2 ^ 20
      let line := fun (pin : Bool) (f g : LevelFilter) (before after : Bool) =>
        let waits := g = ⟨f.level, f.held + n⟩ ∧ after = before
        let passes := g = ⟨pin, 0⟩ ∧ after = true ∧ t.resetReq = true
        (pin = f.level → g = f ∧ after = before) ∧
          (pin ≠ f.level →
            (f.held + n < 10 → waits) ∧ (11 ≤ f.held + n → passes) ∧ (f.held + n = 10 → waits ∨ passes))
      line (s.pins.resetBus.getLsbD 1) s.resetFilter.line1 t.resetFilter.line1 s.sys.rb1Trans t.sys.rb1Trans ∧
        line (s.pins.resetBus.getLsbD 0) s.resetFilter.line0 t.resetFilter.line0 s.sys.rb0Trans t.sys.rb0Trans ∧
        (t.resetFilter.line1.level = s.resetFilter.line1.level → t.resetFilter.line0.level = s.resetFilter.line0.level →
          ¬(s.wdt.enabled = true ∧ s.wdt.count < period ∧ period ≤ s.wdt.count + n) → t.resetReq = s.resetReq))

/-- `fault_detect` in the MPU, and the master reset, are steps that end in a user reset. The first leaves RST_FAULT and the address of the
fault; the second leaves RST_PWRON, the trap bits clear, and the RTI generator running freely from `rti_default`. In the CPU variant
`fault_detect` is followed by no effect the spec gives, and the model stops until a reset is requested (R513, R564, R590, R600, R601,
R580). These clauses are the model's choices and not the spec's: that memory and the other status latches stay after a fault, where UD9
leaves memory written since it open (log 17, unsafe); that memory stays after the master reset (log 19); and that the user reset is the
same step (logs 19 and 36). -/
def Obligations.FaultAndMasterResetLeaveTheirCause : Prop :=
  ∀ s : State,
    let restarts := fun (e : EnvEvent) (after : State → Prop) =>
      ∃ t, step { s with script := [⟨[e], none⟩] } = .next t ∧ t.pc = 0x0000 ∧ t.i = s.params.resetI ∧ t.r = s.params.resetR ∧
        t.sp = s.params.resetSp ∧ t.iff1 = false ∧ t.iff2 = false ∧ t.im = .im0 ∧ t.runState = .run ∧ t.resetReq = false ∧
        t.upset = false ∧ t.nmiPending = false ∧ t.prefetched = none ∧ t.mem = s.mem ∧ t.params = s.params ∧ t.pins = s.pins ∧
        after t
    (s.isMpu = true → ∀ la, restarts (.faultDetect la) (fun t =>
      t.sys = { s.sys with
        rstFault := true
        faultLa := la
        faultPa := (s.translate la).extractLsb' 12 16
        drqTo := t.sys.drqTo
        waitTo := t.sys.waitTo } ∧
      t.rti = s.rti)) ∧
    restarts .clearb (fun t => s.isMpu = true →
      t.sys.rstPwron = true ∧ t.sys.trapWp = false ∧ t.sys.trapXp = false ∧ t.sys.trapI3 = false ∧ t.sys.trapI2 = false ∧
        t.rti.follows = false ∧
        t.rti.count = if s.pins.rtiDefault = 0 then 0 else max 1024 s.pins.rtiDefault.toNat) ∧
    (s.isMpu = false → s.resetReq = false → ∀ la,
      step { s with script := [⟨[.faultDetect la], none⟩] } = .fault .mainStateUpset)

/-- A time-out byte is a flag, or a count that stops at 255. A Wait time-out counts only where its limit is not 0 and the core is neither
stopped nor off the bus. The clocks of a grant, and those that pass before the next boundary while its DUS bit is set, add to the active
time; when that reaches the limit the grant ends: DRQ_TO counts, `drq_timeout` pulses, no DUS bit is left, and at the next boundary the
core goes on as if no master had asked. Otherwise a grant ends at a boundary without a request. Either end starts the idle minimum, which
runs down with the clocks and keeps every request from the core until it has passed (R565, R571, R573, R616). That time-outs and clocks
are events, when a DUS bit is cleared, and that the core keeps the bus for exactly one boundary, are the model's (logs 22, 24, 25, 39). -/
def Obligations.TimeOutsAreCounted : Prop :=
  ∀ s : State, s.isMpu = true →
    let counts := fun (mode : TimeoutMode) (v : Byte) =>
      match mode with
      | .log => 1
      | .acc => min (v.toNat + 1) 255
    let limit := 16 * s.pins.drqActLim.toNat
    let idle := 16 * s.pins.drqIdlLim.toNat
    let timedOut := fun (t : State) (left : Nat) =>
      t.dma = ⟨0, 0, left, true⟩ ∧ Signal.drqTimeout ∈ t.trace ∧ t.sys.drqTo.toNat = counts s.params.dreqMode s.sys.drqTo
    (∀ k d rest, s.script = ⟨[.waitTimeout k], d⟩ :: rest →
      let t := s.afterEvents
      let wait := match k with | .iack => s.pins.iackWaitLim | .io => s.pins.ioWaitLim | .mem => s.pins.memWaitLim
      if wait ≠ 0 ∧ s.runState = .run ∧ s.dma.dus = 0 then
        t.sys.waitTo.toNat = counts s.params.waitMode s.sys.waitTo ∧
          t = { s with sys := { s.sys with waitTo := t.sys.waitTo }, trace := .waitTimeout :: s.trace, script := rest }
      else t = { s with script := rest }) ∧
    (∀ n d rest, s.script = ⟨[.clocks n], d⟩ :: rest →
      let t := s.afterEvents
      if s.dma.dus = 0 then t.dma = { s.dma with idle := s.dma.idle - n } ∧ t.sys.drqTo = s.sys.drqTo
      else if limit ≠ 0 ∧ limit ≤ s.dma.active + n then timedOut t (idle - (n - (limit - s.dma.active)))
      else t.dma = { s.dma with active := s.dma.active + n } ∧ t.sys.drqTo = s.sys.drqTo) ∧
    (s.resetReq = false → s.upset = false → s.noSample = false →
      (∀ g, s.script = [⟨[], some g⟩] →
        (s.dma.idle = 0 → s.dma.coreTurn = false → g.requests ≠ 0 →
          ∃ t, step s = .next t ∧
            if limit ≠ 0 ∧ limit ≤ s.dma.active + g.clocks then timedOut t idle
            else t.dma.active = s.dma.active + g.clocks ∧ t.dma.dus ≠ 0 ∧ t.sys.drqTo = s.sys.drqTo) ∧
        ((s.dma.idle ≠ 0 ∨ s.dma.coreTurn = true) → s.dma.dus = 0 →
          step s = step { s with script := [], dma := { s.dma with coreTurn := false } })) ∧
      ((s.script = [] ∨ ∃ g, s.script = [⟨[], some g⟩] ∧ g.requests = 0) → s.dma.dus ≠ 0 →
        step s = step { s with script := [], dma := ⟨0, 0, idle, false⟩ }))

/-- While the RTI generator runs freely, with no change of `ref_clock` on the way, its counter runs down from where it stands and then again
and again from `rti_default`, at least 1024, with one pulse at each end; at 0 it stops, and a stopped counter starts when `rti_default`
is not 0. Where the board connects the pulse to `nmi_req`, it is a request (R580, R45; the free start is log 40, time as an event log
22). -/
def Obligations.FreeRunningPulsesAreEvenlySpaced : Prop :=
  ∀ (s : State) (n : Nat) (d : Option DmaRequest) (rest : List Tick), s.isMpu = true → s.script = ⟨[.clocks n], d⟩ :: rest →
    s.rti.follows = false → s.pins.refClock = s.rti.filtered →
    let t := s.afterEvents
    let period := if s.pins.rtiDefault = 0 then 0 else max 1024 s.pins.rtiDefault.toNat
    let first := if s.rti.count = 0 then period else s.rti.count
    let beyond := n - first
    let pulses := if first = 0 ∨ n < first then 0 else if period = 0 then 1 else 1 + beyond / period
    t.trace.count .rtiPulse = s.trace.count .rtiPulse + pulses ∧
      t.rti.count = (if first = 0 ∨ n < first then first - n else if period = 0 then 0 else period - beyond % period) ∧
      t.rti.since = s.rti.since + n ∧ t.rti.edges = s.rti.edges ∧ t.rti.filtered = s.rti.filtered ∧
      t.nmiPending = (s.nmiPending || (s.pins.rtiNmi && decide (pulses ≠ 0)))

/-- The synchronised mode. A level of `ref_clock` passes the filter when it has stood for its clocks. A rising edge that has passed
measures the clocks `N` since the last one, unless it is a first one; `q = N div RTI_DIVISOR`, forced to 1024, and `R = N mod
RTI_DIVISOR`; with divisor 1 the edge is itself a pulse; above 1 it selects the mode, and the first interval begins; in the mode it begins
a frame with the new results. In a frame of `N` clocks that starts so the pulses come when 1, 2, ... intervals of `q` are over, the first
`R` of them one clock longer (R581). These are the model's choices (log 40): that the filter has 11 clocks left of the delay of about 13;
that an edge is a first one again after two missed ones, which are missed when more than twice the last period has passed; that
synchronisation counts as achieved, and a first frame begins, at the edge that selects the mode; that a later frame begins at the pulse
nearest its edge, and has the clock of the phase-locked loop in its last interval. An interval too long for the counter is not stated. -/
def Obligations.SynchronisedPulsesDivideThePeriod : Prop :=
  ∀ s : State, s.isMpu = true →
    let d := s.pins.rtiDivisor.toNat
    let g := s.rti
    let firstEdge := fun (since : Nat) => g.edges = 0 ∨ (g.edges = 2 ∧ 2 * g.period < since)
    (∀ n rest tick, s.script = ⟨[.clocks n], tick⟩ :: rest → s.pins.refClock ≠ g.filtered →
      let t := s.afterEvents
      let wait := 11 - g.held
      (g.held + n < 11 →
        t.rti.filtered = g.filtered ∧ t.rti.held = g.held + n ∧ t.rti.edges = g.edges ∧ t.rti.since = g.since + n) ∧
        (11 ≤ g.held + n → t.rti.filtered = s.pins.refClock ∧ t.rti.held = 0 ∧
          if s.pins.refClock = true then
            t.rti.since = n - wait ∧ (firstEdge (g.since + wait) → t.rti.edges = 1) ∧
              (¬firstEdge (g.since + wait) → t.rti.edges = 2 ∧ t.rti.period = g.since + wait)
          else t.rti.since = g.since + n ∧ t.rti.edges = g.edges ∧ t.rti.period = g.period)) ∧
    (s.pins.refClock = true →
      let t := s.refClockFiltered
      t.rti.filtered = true ∧ t.rti.held = 0 ∧ t.rti.since = 0 ∧ (firstEdge g.since → t.rti.edges = 1) ∧
        (¬firstEdge g.since → t.rti.edges = 2 ∧ t.rti.period = g.since ∧
          (d ≠ 0 → g.since / d < 2 ^ 24 →
            t.rti.quotient = max 1024 (g.since / d) ∧ t.rti.remainder = g.since % d ∧
              t.rti.tooShort = decide (g.since / d < 1024) ∧ t.rti.follows = true ∧
              (d = 1 → t.trace = .rtiPulse :: s.trace) ∧
              (2 ≤ d → t.trace = s.trace) ∧
              (2 ≤ d → g.follows = false → t.rti.synced = true ∧
                (t.rti.quotient + 1 < 2 ^ 24 ∨ t.rti.remainder = 0 →
                  t.rti.count = t.rti.quotient + (if t.rti.remainder = 0 then 0 else 1)) ∧
                t.rti.left = d - 1 ∧ t.rti.long = t.rti.remainder - 1 ∧ t.rti.base = t.rti.quotient ∧ t.rti.adjust = .exact) ∧
              (2 ≤ d → g.follows = true →
                if g.elapsed ≤ g.count then
                  (t.rti.quotient + 1 < 2 ^ 24 ∨ t.rti.remainder = 0 →
                    t.rti.count = max 1 (t.rti.quotient + (if t.rti.remainder = 0 then 0 else 1) - g.elapsed)) ∧
                  t.rti.left = d - 1 ∧ t.rti.long = t.rti.remainder - 1 ∧ t.rti.base = t.rti.quotient ∧
                  t.rti.adjust = (if g.elapsed ≤ 1 then .exact else .longer)
                else
                  t.rti.count = g.count ∧ t.rti.left = 0 ∧ t.rti.pulses = d ∧
                    t.rti.adjust = (if g.count ≤ 1 then .exact else .shorter))))) ∧
    ∀ n q r rest tick, s.script = ⟨[.clocks n], tick⟩ :: rest → s.pins.refClock = g.filtered →
      g.follows = true → 2 ≤ d → g.edges = 2 → g.since = 0 → 1024 ≤ q → (q + 1 < 2 ^ 24 ∨ (r = 0 ∧ q < 2 ^ 24)) → r < d →
      g.period = q * d + r → n ≤ g.period →
      g.count = q + (if r = 0 then 0 else 1) → g.left = d - 1 → g.long = r - 1 → g.base = q → g.adjust = .exact →
      g.quotient = q → g.remainder = r → g.pulses = d →
      s.afterEvents.trace.count .rtiPulse = s.trace.count .rtiPulse +
        ((List.range d).filter (fun k => decide ((k + 1) * q + min (k + 1) r ≤ n))).length
end

