-- ==== Sys2Proof/Laws/State.lean ====
section
/-! SUPPORT. One lemma per field of State per named update. -/

namespace Sys2Proof.Machine

open Sys2Proof

/-! `State.setR8` -/

@[simp] theorem State.setR8_main (s : State) (r : Reg8) (v : Byte) : (s.setR8 r v).main = s.main.setR8 r v := rfl
@[simp] theorem State.setR8_alt (s : State) (r : Reg8) (v : Byte) : (s.setR8 r v).alt = s.alt := rfl
@[simp] theorem State.setR8_ix (s : State) (r : Reg8) (v : Byte) : (s.setR8 r v).ix = s.ix := rfl
@[simp] theorem State.setR8_iy (s : State) (r : Reg8) (v : Byte) : (s.setR8 r v).iy = s.iy := rfl
@[simp] theorem State.setR8_sp (s : State) (r : Reg8) (v : Byte) : (s.setR8 r v).sp = s.sp := rfl
@[simp] theorem State.setR8_pc (s : State) (r : Reg8) (v : Byte) : (s.setR8 r v).pc = s.pc := rfl
@[simp] theorem State.setR8_i (s : State) (r : Reg8) (v : Byte) : (s.setR8 r v).i = s.i := rfl
@[simp] theorem State.setR8_r (s : State) (r : Reg8) (v : Byte) : (s.setR8 r v).r = s.r := rfl
@[simp] theorem State.setR8_iff1 (s : State) (r : Reg8) (v : Byte) : (s.setR8 r v).iff1 = s.iff1 := rfl
@[simp] theorem State.setR8_iff2 (s : State) (r : Reg8) (v : Byte) : (s.setR8 r v).iff2 = s.iff2 := rfl
@[simp] theorem State.setR8_im (s : State) (r : Reg8) (v : Byte) : (s.setR8 r v).im = s.im := rfl
@[simp] theorem State.setR8_runState (s : State) (r : Reg8) (v : Byte) : (s.setR8 r v).runState = s.runState := rfl
@[simp] theorem State.setR8_nmiPending (s : State) (r : Reg8) (v : Byte) : (s.setR8 r v).nmiPending = s.nmiPending := rfl
@[simp] theorem State.setR8_prefetched (s : State) (r : Reg8) (v : Byte) : (s.setR8 r v).prefetched = s.prefetched := rfl
@[simp] theorem State.setR8_repeating (s : State) (r : Reg8) (v : Byte) : (s.setR8 r v).repeating = s.repeating := rfl
@[simp] theorem State.setR8_wpPending (s : State) (r : Reg8) (v : Byte) : (s.setR8 r v).wpPending = s.wpPending := rfl
@[simp] theorem State.setR8_noSample (s : State) (r : Reg8) (v : Byte) : (s.setR8 r v).noSample = s.noSample := rfl
@[simp] theorem State.setR8_reqSeen (s : State) (r : Reg8) (v : Byte) : (s.setR8 r v).reqSeen = s.reqSeen := rfl
@[simp] theorem State.setR8_mmu (s : State) (r : Reg8) (v : Byte) : (s.setR8 r v).mmu = s.mmu := rfl
@[simp] theorem State.setR8_irq (s : State) (r : Reg8) (v : Byte) : (s.setR8 r v).irq = s.irq := rfl
@[simp] theorem State.setR8_dma (s : State) (r : Reg8) (v : Byte) : (s.setR8 r v).dma = s.dma := rfl
@[simp] theorem State.setR8_wdt (s : State) (r : Reg8) (v : Byte) : (s.setR8 r v).wdt = s.wdt := rfl
@[simp] theorem State.setR8_rti (s : State) (r : Reg8) (v : Byte) : (s.setR8 r v).rti = s.rti := rfl
@[simp] theorem State.setR8_resetFilter (s : State) (r : Reg8) (v : Byte) : (s.setR8 r v).resetFilter = s.resetFilter := rfl
@[simp] theorem State.setR8_sys (s : State) (r : Reg8) (v : Byte) : (s.setR8 r v).sys = s.sys := rfl
@[simp] theorem State.setR8_fatalDetect (s : State) (r : Reg8) (v : Byte) : (s.setR8 r v).fatalDetect = s.fatalDetect := rfl
@[simp] theorem State.setR8_resetReq (s : State) (r : Reg8) (v : Byte) : (s.setR8 r v).resetReq = s.resetReq := rfl
@[simp] theorem State.setR8_upset (s : State) (r : Reg8) (v : Byte) : (s.setR8 r v).upset = s.upset := rfl
@[simp] theorem State.setR8_mem (s : State) (r : Reg8) (v : Byte) : (s.setR8 r v).mem = s.mem := rfl
@[simp] theorem State.setR8_params (s : State) (r : Reg8) (v : Byte) : (s.setR8 r v).params = s.params := rfl
@[simp] theorem State.setR8_pins (s : State) (r : Reg8) (v : Byte) : (s.setR8 r v).pins = s.pins := rfl
@[simp] theorem State.setR8_script (s : State) (r : Reg8) (v : Byte) : (s.setR8 r v).script = s.script := rfl
@[simp] theorem State.setR8_ioIn (s : State) (r : Reg8) (v : Byte) : (s.setR8 r v).ioIn = s.ioIn := rfl
@[simp] theorem State.setR8_trace (s : State) (r : Reg8) (v : Byte) : (s.setR8 r v).trace = s.trace := rfl
@[simp] theorem State.setR8_fresh (s : State) (r : Reg8) (v : Byte) : (s.setR8 r v).fresh = s.fresh := rfl

/-! `State.setA` -/

@[simp] theorem State.setA_main (s : State) (v : Byte) : (s.setA v).main = { s.main with a := v } := rfl
@[simp] theorem State.setA_alt (s : State) (v : Byte) : (s.setA v).alt = s.alt := rfl
@[simp] theorem State.setA_ix (s : State) (v : Byte) : (s.setA v).ix = s.ix := rfl
@[simp] theorem State.setA_iy (s : State) (v : Byte) : (s.setA v).iy = s.iy := rfl
@[simp] theorem State.setA_sp (s : State) (v : Byte) : (s.setA v).sp = s.sp := rfl
@[simp] theorem State.setA_pc (s : State) (v : Byte) : (s.setA v).pc = s.pc := rfl
@[simp] theorem State.setA_i (s : State) (v : Byte) : (s.setA v).i = s.i := rfl
@[simp] theorem State.setA_r (s : State) (v : Byte) : (s.setA v).r = s.r := rfl
@[simp] theorem State.setA_iff1 (s : State) (v : Byte) : (s.setA v).iff1 = s.iff1 := rfl
@[simp] theorem State.setA_iff2 (s : State) (v : Byte) : (s.setA v).iff2 = s.iff2 := rfl
@[simp] theorem State.setA_im (s : State) (v : Byte) : (s.setA v).im = s.im := rfl
@[simp] theorem State.setA_runState (s : State) (v : Byte) : (s.setA v).runState = s.runState := rfl
@[simp] theorem State.setA_nmiPending (s : State) (v : Byte) : (s.setA v).nmiPending = s.nmiPending := rfl
@[simp] theorem State.setA_prefetched (s : State) (v : Byte) : (s.setA v).prefetched = s.prefetched := rfl
@[simp] theorem State.setA_repeating (s : State) (v : Byte) : (s.setA v).repeating = s.repeating := rfl
@[simp] theorem State.setA_wpPending (s : State) (v : Byte) : (s.setA v).wpPending = s.wpPending := rfl
@[simp] theorem State.setA_noSample (s : State) (v : Byte) : (s.setA v).noSample = s.noSample := rfl
@[simp] theorem State.setA_reqSeen (s : State) (v : Byte) : (s.setA v).reqSeen = s.reqSeen := rfl
@[simp] theorem State.setA_mmu (s : State) (v : Byte) : (s.setA v).mmu = s.mmu := rfl
@[simp] theorem State.setA_irq (s : State) (v : Byte) : (s.setA v).irq = s.irq := rfl
@[simp] theorem State.setA_dma (s : State) (v : Byte) : (s.setA v).dma = s.dma := rfl
@[simp] theorem State.setA_wdt (s : State) (v : Byte) : (s.setA v).wdt = s.wdt := rfl
@[simp] theorem State.setA_rti (s : State) (v : Byte) : (s.setA v).rti = s.rti := rfl
@[simp] theorem State.setA_resetFilter (s : State) (v : Byte) : (s.setA v).resetFilter = s.resetFilter := rfl
@[simp] theorem State.setA_sys (s : State) (v : Byte) : (s.setA v).sys = s.sys := rfl
@[simp] theorem State.setA_fatalDetect (s : State) (v : Byte) : (s.setA v).fatalDetect = s.fatalDetect := rfl
@[simp] theorem State.setA_resetReq (s : State) (v : Byte) : (s.setA v).resetReq = s.resetReq := rfl
@[simp] theorem State.setA_upset (s : State) (v : Byte) : (s.setA v).upset = s.upset := rfl
@[simp] theorem State.setA_mem (s : State) (v : Byte) : (s.setA v).mem = s.mem := rfl
@[simp] theorem State.setA_params (s : State) (v : Byte) : (s.setA v).params = s.params := rfl
@[simp] theorem State.setA_pins (s : State) (v : Byte) : (s.setA v).pins = s.pins := rfl
@[simp] theorem State.setA_script (s : State) (v : Byte) : (s.setA v).script = s.script := rfl
@[simp] theorem State.setA_ioIn (s : State) (v : Byte) : (s.setA v).ioIn = s.ioIn := rfl
@[simp] theorem State.setA_trace (s : State) (v : Byte) : (s.setA v).trace = s.trace := rfl
@[simp] theorem State.setA_fresh (s : State) (v : Byte) : (s.setA v).fresh = s.fresh := rfl

/-! `State.setBc` -/

@[simp] theorem State.setBc_main (s : State) (v : Word) : (s.setBc v).main = { s.main with b := high v, c := low v } := rfl
@[simp] theorem State.setBc_alt (s : State) (v : Word) : (s.setBc v).alt = s.alt := rfl
@[simp] theorem State.setBc_ix (s : State) (v : Word) : (s.setBc v).ix = s.ix := rfl
@[simp] theorem State.setBc_iy (s : State) (v : Word) : (s.setBc v).iy = s.iy := rfl
@[simp] theorem State.setBc_sp (s : State) (v : Word) : (s.setBc v).sp = s.sp := rfl
@[simp] theorem State.setBc_pc (s : State) (v : Word) : (s.setBc v).pc = s.pc := rfl
@[simp] theorem State.setBc_i (s : State) (v : Word) : (s.setBc v).i = s.i := rfl
@[simp] theorem State.setBc_r (s : State) (v : Word) : (s.setBc v).r = s.r := rfl
@[simp] theorem State.setBc_iff1 (s : State) (v : Word) : (s.setBc v).iff1 = s.iff1 := rfl
@[simp] theorem State.setBc_iff2 (s : State) (v : Word) : (s.setBc v).iff2 = s.iff2 := rfl
@[simp] theorem State.setBc_im (s : State) (v : Word) : (s.setBc v).im = s.im := rfl
@[simp] theorem State.setBc_runState (s : State) (v : Word) : (s.setBc v).runState = s.runState := rfl
@[simp] theorem State.setBc_nmiPending (s : State) (v : Word) : (s.setBc v).nmiPending = s.nmiPending := rfl
@[simp] theorem State.setBc_prefetched (s : State) (v : Word) : (s.setBc v).prefetched = s.prefetched := rfl
@[simp] theorem State.setBc_repeating (s : State) (v : Word) : (s.setBc v).repeating = s.repeating := rfl
@[simp] theorem State.setBc_wpPending (s : State) (v : Word) : (s.setBc v).wpPending = s.wpPending := rfl
@[simp] theorem State.setBc_noSample (s : State) (v : Word) : (s.setBc v).noSample = s.noSample := rfl
@[simp] theorem State.setBc_reqSeen (s : State) (v : Word) : (s.setBc v).reqSeen = s.reqSeen := rfl
@[simp] theorem State.setBc_mmu (s : State) (v : Word) : (s.setBc v).mmu = s.mmu := rfl
@[simp] theorem State.setBc_irq (s : State) (v : Word) : (s.setBc v).irq = s.irq := rfl
@[simp] theorem State.setBc_dma (s : State) (v : Word) : (s.setBc v).dma = s.dma := rfl
@[simp] theorem State.setBc_wdt (s : State) (v : Word) : (s.setBc v).wdt = s.wdt := rfl
@[simp] theorem State.setBc_rti (s : State) (v : Word) : (s.setBc v).rti = s.rti := rfl
@[simp] theorem State.setBc_resetFilter (s : State) (v : Word) : (s.setBc v).resetFilter = s.resetFilter := rfl
@[simp] theorem State.setBc_sys (s : State) (v : Word) : (s.setBc v).sys = s.sys := rfl
@[simp] theorem State.setBc_fatalDetect (s : State) (v : Word) : (s.setBc v).fatalDetect = s.fatalDetect := rfl
@[simp] theorem State.setBc_resetReq (s : State) (v : Word) : (s.setBc v).resetReq = s.resetReq := rfl
@[simp] theorem State.setBc_upset (s : State) (v : Word) : (s.setBc v).upset = s.upset := rfl
@[simp] theorem State.setBc_mem (s : State) (v : Word) : (s.setBc v).mem = s.mem := rfl
@[simp] theorem State.setBc_params (s : State) (v : Word) : (s.setBc v).params = s.params := rfl
@[simp] theorem State.setBc_pins (s : State) (v : Word) : (s.setBc v).pins = s.pins := rfl
@[simp] theorem State.setBc_script (s : State) (v : Word) : (s.setBc v).script = s.script := rfl
@[simp] theorem State.setBc_ioIn (s : State) (v : Word) : (s.setBc v).ioIn = s.ioIn := rfl
@[simp] theorem State.setBc_trace (s : State) (v : Word) : (s.setBc v).trace = s.trace := rfl
@[simp] theorem State.setBc_fresh (s : State) (v : Word) : (s.setBc v).fresh = s.fresh := rfl

/-! `State.setDe` -/

@[simp] theorem State.setDe_main (s : State) (v : Word) : (s.setDe v).main = { s.main with d := high v, e := low v } := rfl
@[simp] theorem State.setDe_alt (s : State) (v : Word) : (s.setDe v).alt = s.alt := rfl
@[simp] theorem State.setDe_ix (s : State) (v : Word) : (s.setDe v).ix = s.ix := rfl
@[simp] theorem State.setDe_iy (s : State) (v : Word) : (s.setDe v).iy = s.iy := rfl
@[simp] theorem State.setDe_sp (s : State) (v : Word) : (s.setDe v).sp = s.sp := rfl
@[simp] theorem State.setDe_pc (s : State) (v : Word) : (s.setDe v).pc = s.pc := rfl
@[simp] theorem State.setDe_i (s : State) (v : Word) : (s.setDe v).i = s.i := rfl
@[simp] theorem State.setDe_r (s : State) (v : Word) : (s.setDe v).r = s.r := rfl
@[simp] theorem State.setDe_iff1 (s : State) (v : Word) : (s.setDe v).iff1 = s.iff1 := rfl
@[simp] theorem State.setDe_iff2 (s : State) (v : Word) : (s.setDe v).iff2 = s.iff2 := rfl
@[simp] theorem State.setDe_im (s : State) (v : Word) : (s.setDe v).im = s.im := rfl
@[simp] theorem State.setDe_runState (s : State) (v : Word) : (s.setDe v).runState = s.runState := rfl
@[simp] theorem State.setDe_nmiPending (s : State) (v : Word) : (s.setDe v).nmiPending = s.nmiPending := rfl
@[simp] theorem State.setDe_prefetched (s : State) (v : Word) : (s.setDe v).prefetched = s.prefetched := rfl
@[simp] theorem State.setDe_repeating (s : State) (v : Word) : (s.setDe v).repeating = s.repeating := rfl
@[simp] theorem State.setDe_wpPending (s : State) (v : Word) : (s.setDe v).wpPending = s.wpPending := rfl
@[simp] theorem State.setDe_noSample (s : State) (v : Word) : (s.setDe v).noSample = s.noSample := rfl
@[simp] theorem State.setDe_reqSeen (s : State) (v : Word) : (s.setDe v).reqSeen = s.reqSeen := rfl
@[simp] theorem State.setDe_mmu (s : State) (v : Word) : (s.setDe v).mmu = s.mmu := rfl
@[simp] theorem State.setDe_irq (s : State) (v : Word) : (s.setDe v).irq = s.irq := rfl
@[simp] theorem State.setDe_dma (s : State) (v : Word) : (s.setDe v).dma = s.dma := rfl
@[simp] theorem State.setDe_wdt (s : State) (v : Word) : (s.setDe v).wdt = s.wdt := rfl
@[simp] theorem State.setDe_rti (s : State) (v : Word) : (s.setDe v).rti = s.rti := rfl
@[simp] theorem State.setDe_resetFilter (s : State) (v : Word) : (s.setDe v).resetFilter = s.resetFilter := rfl
@[simp] theorem State.setDe_sys (s : State) (v : Word) : (s.setDe v).sys = s.sys := rfl
@[simp] theorem State.setDe_fatalDetect (s : State) (v : Word) : (s.setDe v).fatalDetect = s.fatalDetect := rfl
@[simp] theorem State.setDe_resetReq (s : State) (v : Word) : (s.setDe v).resetReq = s.resetReq := rfl
@[simp] theorem State.setDe_upset (s : State) (v : Word) : (s.setDe v).upset = s.upset := rfl
@[simp] theorem State.setDe_mem (s : State) (v : Word) : (s.setDe v).mem = s.mem := rfl
@[simp] theorem State.setDe_params (s : State) (v : Word) : (s.setDe v).params = s.params := rfl
@[simp] theorem State.setDe_pins (s : State) (v : Word) : (s.setDe v).pins = s.pins := rfl
@[simp] theorem State.setDe_script (s : State) (v : Word) : (s.setDe v).script = s.script := rfl
@[simp] theorem State.setDe_ioIn (s : State) (v : Word) : (s.setDe v).ioIn = s.ioIn := rfl
@[simp] theorem State.setDe_trace (s : State) (v : Word) : (s.setDe v).trace = s.trace := rfl
@[simp] theorem State.setDe_fresh (s : State) (v : Word) : (s.setDe v).fresh = s.fresh := rfl

/-! `State.setHl` -/

@[simp] theorem State.setHl_main (s : State) (v : Word) : (s.setHl v).main = { s.main with h := high v, l := low v } := rfl
@[simp] theorem State.setHl_alt (s : State) (v : Word) : (s.setHl v).alt = s.alt := rfl
@[simp] theorem State.setHl_ix (s : State) (v : Word) : (s.setHl v).ix = s.ix := rfl
@[simp] theorem State.setHl_iy (s : State) (v : Word) : (s.setHl v).iy = s.iy := rfl
@[simp] theorem State.setHl_sp (s : State) (v : Word) : (s.setHl v).sp = s.sp := rfl
@[simp] theorem State.setHl_pc (s : State) (v : Word) : (s.setHl v).pc = s.pc := rfl
@[simp] theorem State.setHl_i (s : State) (v : Word) : (s.setHl v).i = s.i := rfl
@[simp] theorem State.setHl_r (s : State) (v : Word) : (s.setHl v).r = s.r := rfl
@[simp] theorem State.setHl_iff1 (s : State) (v : Word) : (s.setHl v).iff1 = s.iff1 := rfl
@[simp] theorem State.setHl_iff2 (s : State) (v : Word) : (s.setHl v).iff2 = s.iff2 := rfl
@[simp] theorem State.setHl_im (s : State) (v : Word) : (s.setHl v).im = s.im := rfl
@[simp] theorem State.setHl_runState (s : State) (v : Word) : (s.setHl v).runState = s.runState := rfl
@[simp] theorem State.setHl_nmiPending (s : State) (v : Word) : (s.setHl v).nmiPending = s.nmiPending := rfl
@[simp] theorem State.setHl_prefetched (s : State) (v : Word) : (s.setHl v).prefetched = s.prefetched := rfl
@[simp] theorem State.setHl_repeating (s : State) (v : Word) : (s.setHl v).repeating = s.repeating := rfl
@[simp] theorem State.setHl_wpPending (s : State) (v : Word) : (s.setHl v).wpPending = s.wpPending := rfl
@[simp] theorem State.setHl_noSample (s : State) (v : Word) : (s.setHl v).noSample = s.noSample := rfl
@[simp] theorem State.setHl_reqSeen (s : State) (v : Word) : (s.setHl v).reqSeen = s.reqSeen := rfl
@[simp] theorem State.setHl_mmu (s : State) (v : Word) : (s.setHl v).mmu = s.mmu := rfl
@[simp] theorem State.setHl_irq (s : State) (v : Word) : (s.setHl v).irq = s.irq := rfl
@[simp] theorem State.setHl_dma (s : State) (v : Word) : (s.setHl v).dma = s.dma := rfl
@[simp] theorem State.setHl_wdt (s : State) (v : Word) : (s.setHl v).wdt = s.wdt := rfl
@[simp] theorem State.setHl_rti (s : State) (v : Word) : (s.setHl v).rti = s.rti := rfl
@[simp] theorem State.setHl_resetFilter (s : State) (v : Word) : (s.setHl v).resetFilter = s.resetFilter := rfl
@[simp] theorem State.setHl_sys (s : State) (v : Word) : (s.setHl v).sys = s.sys := rfl
@[simp] theorem State.setHl_fatalDetect (s : State) (v : Word) : (s.setHl v).fatalDetect = s.fatalDetect := rfl
@[simp] theorem State.setHl_resetReq (s : State) (v : Word) : (s.setHl v).resetReq = s.resetReq := rfl
@[simp] theorem State.setHl_upset (s : State) (v : Word) : (s.setHl v).upset = s.upset := rfl
@[simp] theorem State.setHl_mem (s : State) (v : Word) : (s.setHl v).mem = s.mem := rfl
@[simp] theorem State.setHl_params (s : State) (v : Word) : (s.setHl v).params = s.params := rfl
@[simp] theorem State.setHl_pins (s : State) (v : Word) : (s.setHl v).pins = s.pins := rfl
@[simp] theorem State.setHl_script (s : State) (v : Word) : (s.setHl v).script = s.script := rfl
@[simp] theorem State.setHl_ioIn (s : State) (v : Word) : (s.setHl v).ioIn = s.ioIn := rfl
@[simp] theorem State.setHl_trace (s : State) (v : Word) : (s.setHl v).trace = s.trace := rfl
@[simp] theorem State.setHl_fresh (s : State) (v : Word) : (s.setHl v).fresh = s.fresh := rfl

/-! `State.setAf` -/

@[simp] theorem State.setAf_main (s : State) (v : Word) : (s.setAf v).main = { s.main with a := high v, f := Flags.ofByte (low v) } := rfl
@[simp] theorem State.setAf_alt (s : State) (v : Word) : (s.setAf v).alt = s.alt := rfl
@[simp] theorem State.setAf_ix (s : State) (v : Word) : (s.setAf v).ix = s.ix := rfl
@[simp] theorem State.setAf_iy (s : State) (v : Word) : (s.setAf v).iy = s.iy := rfl
@[simp] theorem State.setAf_sp (s : State) (v : Word) : (s.setAf v).sp = s.sp := rfl
@[simp] theorem State.setAf_pc (s : State) (v : Word) : (s.setAf v).pc = s.pc := rfl
@[simp] theorem State.setAf_i (s : State) (v : Word) : (s.setAf v).i = s.i := rfl
@[simp] theorem State.setAf_r (s : State) (v : Word) : (s.setAf v).r = s.r := rfl
@[simp] theorem State.setAf_iff1 (s : State) (v : Word) : (s.setAf v).iff1 = s.iff1 := rfl
@[simp] theorem State.setAf_iff2 (s : State) (v : Word) : (s.setAf v).iff2 = s.iff2 := rfl
@[simp] theorem State.setAf_im (s : State) (v : Word) : (s.setAf v).im = s.im := rfl
@[simp] theorem State.setAf_runState (s : State) (v : Word) : (s.setAf v).runState = s.runState := rfl
@[simp] theorem State.setAf_nmiPending (s : State) (v : Word) : (s.setAf v).nmiPending = s.nmiPending := rfl
@[simp] theorem State.setAf_prefetched (s : State) (v : Word) : (s.setAf v).prefetched = s.prefetched := rfl
@[simp] theorem State.setAf_repeating (s : State) (v : Word) : (s.setAf v).repeating = s.repeating := rfl
@[simp] theorem State.setAf_wpPending (s : State) (v : Word) : (s.setAf v).wpPending = s.wpPending := rfl
@[simp] theorem State.setAf_noSample (s : State) (v : Word) : (s.setAf v).noSample = s.noSample := rfl
@[simp] theorem State.setAf_reqSeen (s : State) (v : Word) : (s.setAf v).reqSeen = s.reqSeen := rfl
@[simp] theorem State.setAf_mmu (s : State) (v : Word) : (s.setAf v).mmu = s.mmu := rfl
@[simp] theorem State.setAf_irq (s : State) (v : Word) : (s.setAf v).irq = s.irq := rfl
@[simp] theorem State.setAf_dma (s : State) (v : Word) : (s.setAf v).dma = s.dma := rfl
@[simp] theorem State.setAf_wdt (s : State) (v : Word) : (s.setAf v).wdt = s.wdt := rfl
@[simp] theorem State.setAf_rti (s : State) (v : Word) : (s.setAf v).rti = s.rti := rfl
@[simp] theorem State.setAf_resetFilter (s : State) (v : Word) : (s.setAf v).resetFilter = s.resetFilter := rfl
@[simp] theorem State.setAf_sys (s : State) (v : Word) : (s.setAf v).sys = s.sys := rfl
@[simp] theorem State.setAf_fatalDetect (s : State) (v : Word) : (s.setAf v).fatalDetect = s.fatalDetect := rfl
@[simp] theorem State.setAf_resetReq (s : State) (v : Word) : (s.setAf v).resetReq = s.resetReq := rfl
@[simp] theorem State.setAf_upset (s : State) (v : Word) : (s.setAf v).upset = s.upset := rfl
@[simp] theorem State.setAf_mem (s : State) (v : Word) : (s.setAf v).mem = s.mem := rfl
@[simp] theorem State.setAf_params (s : State) (v : Word) : (s.setAf v).params = s.params := rfl
@[simp] theorem State.setAf_pins (s : State) (v : Word) : (s.setAf v).pins = s.pins := rfl
@[simp] theorem State.setAf_script (s : State) (v : Word) : (s.setAf v).script = s.script := rfl
@[simp] theorem State.setAf_ioIn (s : State) (v : Word) : (s.setAf v).ioIn = s.ioIn := rfl
@[simp] theorem State.setAf_trace (s : State) (v : Word) : (s.setAf v).trace = s.trace := rfl
@[simp] theorem State.setAf_fresh (s : State) (v : Word) : (s.setAf v).fresh = s.fresh := rfl

/-! `State.setSp` -/

@[simp] theorem State.setSp_main (s : State) (v : Word) : (s.setSp v).main = s.main := rfl
@[simp] theorem State.setSp_alt (s : State) (v : Word) : (s.setSp v).alt = s.alt := rfl
@[simp] theorem State.setSp_ix (s : State) (v : Word) : (s.setSp v).ix = s.ix := rfl
@[simp] theorem State.setSp_iy (s : State) (v : Word) : (s.setSp v).iy = s.iy := rfl
@[simp] theorem State.setSp_sp (s : State) (v : Word) : (s.setSp v).sp = v := rfl
@[simp] theorem State.setSp_pc (s : State) (v : Word) : (s.setSp v).pc = s.pc := rfl
@[simp] theorem State.setSp_i (s : State) (v : Word) : (s.setSp v).i = s.i := rfl
@[simp] theorem State.setSp_r (s : State) (v : Word) : (s.setSp v).r = s.r := rfl
@[simp] theorem State.setSp_iff1 (s : State) (v : Word) : (s.setSp v).iff1 = s.iff1 := rfl
@[simp] theorem State.setSp_iff2 (s : State) (v : Word) : (s.setSp v).iff2 = s.iff2 := rfl
@[simp] theorem State.setSp_im (s : State) (v : Word) : (s.setSp v).im = s.im := rfl
@[simp] theorem State.setSp_runState (s : State) (v : Word) : (s.setSp v).runState = s.runState := rfl
@[simp] theorem State.setSp_nmiPending (s : State) (v : Word) : (s.setSp v).nmiPending = s.nmiPending := rfl
@[simp] theorem State.setSp_prefetched (s : State) (v : Word) : (s.setSp v).prefetched = s.prefetched := rfl
@[simp] theorem State.setSp_repeating (s : State) (v : Word) : (s.setSp v).repeating = s.repeating := rfl
@[simp] theorem State.setSp_wpPending (s : State) (v : Word) : (s.setSp v).wpPending = s.wpPending := rfl
@[simp] theorem State.setSp_noSample (s : State) (v : Word) : (s.setSp v).noSample = s.noSample := rfl
@[simp] theorem State.setSp_reqSeen (s : State) (v : Word) : (s.setSp v).reqSeen = s.reqSeen := rfl
@[simp] theorem State.setSp_mmu (s : State) (v : Word) : (s.setSp v).mmu = s.mmu := rfl
@[simp] theorem State.setSp_irq (s : State) (v : Word) : (s.setSp v).irq = s.irq := rfl
@[simp] theorem State.setSp_dma (s : State) (v : Word) : (s.setSp v).dma = s.dma := rfl
@[simp] theorem State.setSp_wdt (s : State) (v : Word) : (s.setSp v).wdt = s.wdt := rfl
@[simp] theorem State.setSp_rti (s : State) (v : Word) : (s.setSp v).rti = s.rti := rfl
@[simp] theorem State.setSp_resetFilter (s : State) (v : Word) : (s.setSp v).resetFilter = s.resetFilter := rfl
@[simp] theorem State.setSp_sys (s : State) (v : Word) : (s.setSp v).sys = s.sys := rfl
@[simp] theorem State.setSp_fatalDetect (s : State) (v : Word) : (s.setSp v).fatalDetect = s.fatalDetect := rfl
@[simp] theorem State.setSp_resetReq (s : State) (v : Word) : (s.setSp v).resetReq = s.resetReq := rfl
@[simp] theorem State.setSp_upset (s : State) (v : Word) : (s.setSp v).upset = s.upset := rfl
@[simp] theorem State.setSp_mem (s : State) (v : Word) : (s.setSp v).mem = s.mem := rfl
@[simp] theorem State.setSp_params (s : State) (v : Word) : (s.setSp v).params = s.params := rfl
@[simp] theorem State.setSp_pins (s : State) (v : Word) : (s.setSp v).pins = s.pins := rfl
@[simp] theorem State.setSp_script (s : State) (v : Word) : (s.setSp v).script = s.script := rfl
@[simp] theorem State.setSp_ioIn (s : State) (v : Word) : (s.setSp v).ioIn = s.ioIn := rfl
@[simp] theorem State.setSp_trace (s : State) (v : Word) : (s.setSp v).trace = s.trace := rfl
@[simp] theorem State.setSp_fresh (s : State) (v : Word) : (s.setSp v).fresh = s.fresh := rfl

/-! `State.setPc` -/

@[simp] theorem State.setPc_main (s : State) (v : Word) : (s.setPc v).main = s.main := rfl
@[simp] theorem State.setPc_alt (s : State) (v : Word) : (s.setPc v).alt = s.alt := rfl
@[simp] theorem State.setPc_ix (s : State) (v : Word) : (s.setPc v).ix = s.ix := rfl
@[simp] theorem State.setPc_iy (s : State) (v : Word) : (s.setPc v).iy = s.iy := rfl
@[simp] theorem State.setPc_sp (s : State) (v : Word) : (s.setPc v).sp = s.sp := rfl
@[simp] theorem State.setPc_pc (s : State) (v : Word) : (s.setPc v).pc = v := rfl
@[simp] theorem State.setPc_i (s : State) (v : Word) : (s.setPc v).i = s.i := rfl
@[simp] theorem State.setPc_r (s : State) (v : Word) : (s.setPc v).r = s.r := rfl
@[simp] theorem State.setPc_iff1 (s : State) (v : Word) : (s.setPc v).iff1 = s.iff1 := rfl
@[simp] theorem State.setPc_iff2 (s : State) (v : Word) : (s.setPc v).iff2 = s.iff2 := rfl
@[simp] theorem State.setPc_im (s : State) (v : Word) : (s.setPc v).im = s.im := rfl
@[simp] theorem State.setPc_runState (s : State) (v : Word) : (s.setPc v).runState = s.runState := rfl
@[simp] theorem State.setPc_nmiPending (s : State) (v : Word) : (s.setPc v).nmiPending = s.nmiPending := rfl
@[simp] theorem State.setPc_prefetched (s : State) (v : Word) : (s.setPc v).prefetched = s.prefetched := rfl
@[simp] theorem State.setPc_repeating (s : State) (v : Word) : (s.setPc v).repeating = s.repeating := rfl
@[simp] theorem State.setPc_wpPending (s : State) (v : Word) : (s.setPc v).wpPending = s.wpPending := rfl
@[simp] theorem State.setPc_noSample (s : State) (v : Word) : (s.setPc v).noSample = s.noSample := rfl
@[simp] theorem State.setPc_reqSeen (s : State) (v : Word) : (s.setPc v).reqSeen = s.reqSeen := rfl
@[simp] theorem State.setPc_mmu (s : State) (v : Word) : (s.setPc v).mmu = s.mmu := rfl
@[simp] theorem State.setPc_irq (s : State) (v : Word) : (s.setPc v).irq = s.irq := rfl
@[simp] theorem State.setPc_dma (s : State) (v : Word) : (s.setPc v).dma = s.dma := rfl
@[simp] theorem State.setPc_wdt (s : State) (v : Word) : (s.setPc v).wdt = s.wdt := rfl
@[simp] theorem State.setPc_rti (s : State) (v : Word) : (s.setPc v).rti = s.rti := rfl
@[simp] theorem State.setPc_resetFilter (s : State) (v : Word) : (s.setPc v).resetFilter = s.resetFilter := rfl
@[simp] theorem State.setPc_sys (s : State) (v : Word) : (s.setPc v).sys = s.sys := rfl
@[simp] theorem State.setPc_fatalDetect (s : State) (v : Word) : (s.setPc v).fatalDetect = s.fatalDetect := rfl
@[simp] theorem State.setPc_resetReq (s : State) (v : Word) : (s.setPc v).resetReq = s.resetReq := rfl
@[simp] theorem State.setPc_upset (s : State) (v : Word) : (s.setPc v).upset = s.upset := rfl
@[simp] theorem State.setPc_mem (s : State) (v : Word) : (s.setPc v).mem = s.mem := rfl
@[simp] theorem State.setPc_params (s : State) (v : Word) : (s.setPc v).params = s.params := rfl
@[simp] theorem State.setPc_pins (s : State) (v : Word) : (s.setPc v).pins = s.pins := rfl
@[simp] theorem State.setPc_script (s : State) (v : Word) : (s.setPc v).script = s.script := rfl
@[simp] theorem State.setPc_ioIn (s : State) (v : Word) : (s.setPc v).ioIn = s.ioIn := rfl
@[simp] theorem State.setPc_trace (s : State) (v : Word) : (s.setPc v).trace = s.trace := rfl
@[simp] theorem State.setPc_fresh (s : State) (v : Word) : (s.setPc v).fresh = s.fresh := rfl

/-! `State.setFlags` -/

@[simp] theorem State.setFlags_alt (s : State) (f : Flags) : (s.setFlags f).alt = s.alt := rfl
@[simp] theorem State.setFlags_ix (s : State) (f : Flags) : (s.setFlags f).ix = s.ix := rfl
@[simp] theorem State.setFlags_iy (s : State) (f : Flags) : (s.setFlags f).iy = s.iy := rfl
@[simp] theorem State.setFlags_sp (s : State) (f : Flags) : (s.setFlags f).sp = s.sp := rfl
@[simp] theorem State.setFlags_pc (s : State) (f : Flags) : (s.setFlags f).pc = s.pc := rfl
@[simp] theorem State.setFlags_i (s : State) (f : Flags) : (s.setFlags f).i = s.i := rfl
@[simp] theorem State.setFlags_r (s : State) (f : Flags) : (s.setFlags f).r = s.r := rfl
@[simp] theorem State.setFlags_iff1 (s : State) (f : Flags) : (s.setFlags f).iff1 = s.iff1 := rfl
@[simp] theorem State.setFlags_iff2 (s : State) (f : Flags) : (s.setFlags f).iff2 = s.iff2 := rfl
@[simp] theorem State.setFlags_im (s : State) (f : Flags) : (s.setFlags f).im = s.im := rfl
@[simp] theorem State.setFlags_runState (s : State) (f : Flags) : (s.setFlags f).runState = s.runState := rfl
@[simp] theorem State.setFlags_nmiPending (s : State) (f : Flags) : (s.setFlags f).nmiPending = s.nmiPending := rfl
@[simp] theorem State.setFlags_prefetched (s : State) (f : Flags) : (s.setFlags f).prefetched = s.prefetched := rfl
@[simp] theorem State.setFlags_repeating (s : State) (f : Flags) : (s.setFlags f).repeating = s.repeating := rfl
@[simp] theorem State.setFlags_wpPending (s : State) (f : Flags) : (s.setFlags f).wpPending = s.wpPending := rfl
@[simp] theorem State.setFlags_noSample (s : State) (f : Flags) : (s.setFlags f).noSample = s.noSample := rfl
@[simp] theorem State.setFlags_reqSeen (s : State) (f : Flags) : (s.setFlags f).reqSeen = s.reqSeen := rfl
@[simp] theorem State.setFlags_mmu (s : State) (f : Flags) : (s.setFlags f).mmu = s.mmu := rfl
@[simp] theorem State.setFlags_irq (s : State) (f : Flags) : (s.setFlags f).irq = s.irq := rfl
@[simp] theorem State.setFlags_dma (s : State) (f : Flags) : (s.setFlags f).dma = s.dma := rfl
@[simp] theorem State.setFlags_wdt (s : State) (f : Flags) : (s.setFlags f).wdt = s.wdt := rfl
@[simp] theorem State.setFlags_rti (s : State) (f : Flags) : (s.setFlags f).rti = s.rti := rfl
@[simp] theorem State.setFlags_resetFilter (s : State) (f : Flags) : (s.setFlags f).resetFilter = s.resetFilter := rfl
@[simp] theorem State.setFlags_sys (s : State) (f : Flags) : (s.setFlags f).sys = s.sys := rfl
@[simp] theorem State.setFlags_fatalDetect (s : State) (f : Flags) : (s.setFlags f).fatalDetect = s.fatalDetect := rfl
@[simp] theorem State.setFlags_resetReq (s : State) (f : Flags) : (s.setFlags f).resetReq = s.resetReq := rfl
@[simp] theorem State.setFlags_upset (s : State) (f : Flags) : (s.setFlags f).upset = s.upset := rfl
@[simp] theorem State.setFlags_mem (s : State) (f : Flags) : (s.setFlags f).mem = s.mem := rfl
@[simp] theorem State.setFlags_params (s : State) (f : Flags) : (s.setFlags f).params = s.params := rfl
@[simp] theorem State.setFlags_pins (s : State) (f : Flags) : (s.setFlags f).pins = s.pins := rfl
@[simp] theorem State.setFlags_script (s : State) (f : Flags) : (s.setFlags f).script = s.script := rfl
@[simp] theorem State.setFlags_ioIn (s : State) (f : Flags) : (s.setFlags f).ioIn = s.ioIn := rfl
@[simp] theorem State.setFlags_trace (s : State) (f : Flags) : (s.setFlags f).trace = s.trace := rfl
@[simp] theorem State.setFlags_fresh (s : State) (f : Flags) : (s.setFlags f).fresh = s.fresh + 1 := rfl

/-! `State.emit` -/

@[simp] theorem State.emit_main (s : State) (x : Signal) : (s.emit x).main = s.main := rfl
@[simp] theorem State.emit_alt (s : State) (x : Signal) : (s.emit x).alt = s.alt := rfl
@[simp] theorem State.emit_ix (s : State) (x : Signal) : (s.emit x).ix = s.ix := rfl
@[simp] theorem State.emit_iy (s : State) (x : Signal) : (s.emit x).iy = s.iy := rfl
@[simp] theorem State.emit_sp (s : State) (x : Signal) : (s.emit x).sp = s.sp := rfl
@[simp] theorem State.emit_pc (s : State) (x : Signal) : (s.emit x).pc = s.pc := rfl
@[simp] theorem State.emit_i (s : State) (x : Signal) : (s.emit x).i = s.i := rfl
@[simp] theorem State.emit_r (s : State) (x : Signal) : (s.emit x).r = s.r := rfl
@[simp] theorem State.emit_iff1 (s : State) (x : Signal) : (s.emit x).iff1 = s.iff1 := rfl
@[simp] theorem State.emit_iff2 (s : State) (x : Signal) : (s.emit x).iff2 = s.iff2 := rfl
@[simp] theorem State.emit_im (s : State) (x : Signal) : (s.emit x).im = s.im := rfl
@[simp] theorem State.emit_runState (s : State) (x : Signal) : (s.emit x).runState = s.runState := rfl
@[simp] theorem State.emit_nmiPending (s : State) (x : Signal) : (s.emit x).nmiPending = s.nmiPending := rfl
@[simp] theorem State.emit_prefetched (s : State) (x : Signal) : (s.emit x).prefetched = s.prefetched := rfl
@[simp] theorem State.emit_repeating (s : State) (x : Signal) : (s.emit x).repeating = s.repeating := rfl
@[simp] theorem State.emit_wpPending (s : State) (x : Signal) : (s.emit x).wpPending = s.wpPending := rfl
@[simp] theorem State.emit_noSample (s : State) (x : Signal) : (s.emit x).noSample = s.noSample := rfl
@[simp] theorem State.emit_reqSeen (s : State) (x : Signal) : (s.emit x).reqSeen = s.reqSeen := rfl
@[simp] theorem State.emit_mmu (s : State) (x : Signal) : (s.emit x).mmu = s.mmu := rfl
@[simp] theorem State.emit_irq (s : State) (x : Signal) : (s.emit x).irq = s.irq := rfl
@[simp] theorem State.emit_dma (s : State) (x : Signal) : (s.emit x).dma = s.dma := rfl
@[simp] theorem State.emit_wdt (s : State) (x : Signal) : (s.emit x).wdt = s.wdt := rfl
@[simp] theorem State.emit_rti (s : State) (x : Signal) : (s.emit x).rti = s.rti := rfl
@[simp] theorem State.emit_resetFilter (s : State) (x : Signal) : (s.emit x).resetFilter = s.resetFilter := rfl
@[simp] theorem State.emit_sys (s : State) (x : Signal) : (s.emit x).sys = s.sys := rfl
@[simp] theorem State.emit_fatalDetect (s : State) (x : Signal) : (s.emit x).fatalDetect = s.fatalDetect := rfl
@[simp] theorem State.emit_resetReq (s : State) (x : Signal) : (s.emit x).resetReq = s.resetReq := rfl
@[simp] theorem State.emit_upset (s : State) (x : Signal) : (s.emit x).upset = s.upset := rfl
@[simp] theorem State.emit_mem (s : State) (x : Signal) : (s.emit x).mem = s.mem := rfl
@[simp] theorem State.emit_params (s : State) (x : Signal) : (s.emit x).params = s.params := rfl
@[simp] theorem State.emit_pins (s : State) (x : Signal) : (s.emit x).pins = s.pins := rfl
@[simp] theorem State.emit_script (s : State) (x : Signal) : (s.emit x).script = s.script := rfl
@[simp] theorem State.emit_ioIn (s : State) (x : Signal) : (s.emit x).ioIn = s.ioIn := rfl
@[simp] theorem State.emit_trace (s : State) (x : Signal) : (s.emit x).trace = x :: s.trace := rfl
@[simp] theorem State.emit_fresh (s : State) (x : Signal) : (s.emit x).fresh = s.fresh := rfl

/-! `State.portRead` -/

@[simp] theorem State.portRead_main (s : State) (p : Word) : (s.portRead p).main = s.main := rfl
@[simp] theorem State.portRead_alt (s : State) (p : Word) : (s.portRead p).alt = s.alt := rfl
@[simp] theorem State.portRead_ix (s : State) (p : Word) : (s.portRead p).ix = s.ix := rfl
@[simp] theorem State.portRead_iy (s : State) (p : Word) : (s.portRead p).iy = s.iy := rfl
@[simp] theorem State.portRead_sp (s : State) (p : Word) : (s.portRead p).sp = s.sp := rfl
@[simp] theorem State.portRead_pc (s : State) (p : Word) : (s.portRead p).pc = s.pc := rfl
@[simp] theorem State.portRead_i (s : State) (p : Word) : (s.portRead p).i = s.i := rfl
@[simp] theorem State.portRead_r (s : State) (p : Word) : (s.portRead p).r = s.r := rfl
@[simp] theorem State.portRead_iff1 (s : State) (p : Word) : (s.portRead p).iff1 = s.iff1 := rfl
@[simp] theorem State.portRead_iff2 (s : State) (p : Word) : (s.portRead p).iff2 = s.iff2 := rfl
@[simp] theorem State.portRead_im (s : State) (p : Word) : (s.portRead p).im = s.im := rfl
@[simp] theorem State.portRead_runState (s : State) (p : Word) : (s.portRead p).runState = s.runState := rfl
@[simp] theorem State.portRead_nmiPending (s : State) (p : Word) : (s.portRead p).nmiPending = s.nmiPending := rfl
@[simp] theorem State.portRead_prefetched (s : State) (p : Word) : (s.portRead p).prefetched = s.prefetched := rfl
@[simp] theorem State.portRead_repeating (s : State) (p : Word) : (s.portRead p).repeating = s.repeating := rfl
@[simp] theorem State.portRead_wpPending (s : State) (p : Word) : (s.portRead p).wpPending = s.wpPending := rfl
@[simp] theorem State.portRead_noSample (s : State) (p : Word) : (s.portRead p).noSample = s.noSample := rfl
@[simp] theorem State.portRead_reqSeen (s : State) (p : Word) : (s.portRead p).reqSeen = s.reqSeen := rfl
@[simp] theorem State.portRead_mmu (s : State) (p : Word) : (s.portRead p).mmu = s.mmu := rfl
@[simp] theorem State.portRead_irq (s : State) (p : Word) : (s.portRead p).irq = s.irq := rfl
@[simp] theorem State.portRead_dma (s : State) (p : Word) : (s.portRead p).dma = s.dma := rfl
@[simp] theorem State.portRead_wdt (s : State) (p : Word) : (s.portRead p).wdt = s.wdt := rfl
@[simp] theorem State.portRead_rti (s : State) (p : Word) : (s.portRead p).rti = s.rti := rfl
@[simp] theorem State.portRead_resetFilter (s : State) (p : Word) : (s.portRead p).resetFilter = s.resetFilter := rfl
@[simp] theorem State.portRead_sys (s : State) (p : Word) : (s.portRead p).sys = s.sys := rfl
@[simp] theorem State.portRead_fatalDetect (s : State) (p : Word) : (s.portRead p).fatalDetect = s.fatalDetect := rfl
@[simp] theorem State.portRead_resetReq (s : State) (p : Word) : (s.portRead p).resetReq = s.resetReq := rfl
@[simp] theorem State.portRead_upset (s : State) (p : Word) : (s.portRead p).upset = s.upset := rfl
@[simp] theorem State.portRead_mem (s : State) (p : Word) : (s.portRead p).mem = s.mem := rfl
@[simp] theorem State.portRead_params (s : State) (p : Word) : (s.portRead p).params = s.params := rfl
@[simp] theorem State.portRead_pins (s : State) (p : Word) : (s.portRead p).pins = s.pins := rfl
@[simp] theorem State.portRead_script (s : State) (p : Word) : (s.portRead p).script = s.script := rfl
@[simp] theorem State.portRead_ioIn (s : State) (p : Word) : (s.portRead p).ioIn = s.ioIn.tail := rfl
@[simp] theorem State.portRead_trace (s : State) (p : Word) : (s.portRead p).trace = .ioRead p s.portValue :: s.trace := rfl
@[simp] theorem State.portRead_fresh (s : State) (p : Word) : (s.portRead p).fresh = s.fresh + 1 := rfl

/-! `State.portWrite` -/

@[simp] theorem State.portWrite_main (s : State) (p : Word) (v : Byte) : (s.portWrite p v).main = s.main := rfl
@[simp] theorem State.portWrite_alt (s : State) (p : Word) (v : Byte) : (s.portWrite p v).alt = s.alt := rfl
@[simp] theorem State.portWrite_ix (s : State) (p : Word) (v : Byte) : (s.portWrite p v).ix = s.ix := rfl
@[simp] theorem State.portWrite_iy (s : State) (p : Word) (v : Byte) : (s.portWrite p v).iy = s.iy := rfl
@[simp] theorem State.portWrite_sp (s : State) (p : Word) (v : Byte) : (s.portWrite p v).sp = s.sp := rfl
@[simp] theorem State.portWrite_pc (s : State) (p : Word) (v : Byte) : (s.portWrite p v).pc = s.pc := rfl
@[simp] theorem State.portWrite_i (s : State) (p : Word) (v : Byte) : (s.portWrite p v).i = s.i := rfl
@[simp] theorem State.portWrite_r (s : State) (p : Word) (v : Byte) : (s.portWrite p v).r = s.r := rfl
@[simp] theorem State.portWrite_iff1 (s : State) (p : Word) (v : Byte) : (s.portWrite p v).iff1 = s.iff1 := rfl
@[simp] theorem State.portWrite_iff2 (s : State) (p : Word) (v : Byte) : (s.portWrite p v).iff2 = s.iff2 := rfl
@[simp] theorem State.portWrite_im (s : State) (p : Word) (v : Byte) : (s.portWrite p v).im = s.im := rfl
@[simp] theorem State.portWrite_runState (s : State) (p : Word) (v : Byte) : (s.portWrite p v).runState = s.runState := rfl
@[simp] theorem State.portWrite_nmiPending (s : State) (p : Word) (v : Byte) : (s.portWrite p v).nmiPending = s.nmiPending := rfl
@[simp] theorem State.portWrite_prefetched (s : State) (p : Word) (v : Byte) : (s.portWrite p v).prefetched = s.prefetched := rfl
@[simp] theorem State.portWrite_repeating (s : State) (p : Word) (v : Byte) : (s.portWrite p v).repeating = s.repeating := rfl
@[simp] theorem State.portWrite_wpPending (s : State) (p : Word) (v : Byte) : (s.portWrite p v).wpPending = s.wpPending := rfl
@[simp] theorem State.portWrite_noSample (s : State) (p : Word) (v : Byte) : (s.portWrite p v).noSample = s.noSample := rfl
@[simp] theorem State.portWrite_reqSeen (s : State) (p : Word) (v : Byte) : (s.portWrite p v).reqSeen = s.reqSeen := rfl
@[simp] theorem State.portWrite_mmu (s : State) (p : Word) (v : Byte) : (s.portWrite p v).mmu = s.mmu := rfl
@[simp] theorem State.portWrite_irq (s : State) (p : Word) (v : Byte) : (s.portWrite p v).irq = s.irq := rfl
@[simp] theorem State.portWrite_dma (s : State) (p : Word) (v : Byte) : (s.portWrite p v).dma = s.dma := rfl
@[simp] theorem State.portWrite_wdt (s : State) (p : Word) (v : Byte) : (s.portWrite p v).wdt = s.wdt := rfl
@[simp] theorem State.portWrite_rti (s : State) (p : Word) (v : Byte) : (s.portWrite p v).rti = s.rti := rfl
@[simp] theorem State.portWrite_resetFilter (s : State) (p : Word) (v : Byte) : (s.portWrite p v).resetFilter = s.resetFilter := rfl
@[simp] theorem State.portWrite_sys (s : State) (p : Word) (v : Byte) : (s.portWrite p v).sys = s.sys := rfl
@[simp] theorem State.portWrite_fatalDetect (s : State) (p : Word) (v : Byte) : (s.portWrite p v).fatalDetect = s.fatalDetect := rfl
@[simp] theorem State.portWrite_resetReq (s : State) (p : Word) (v : Byte) : (s.portWrite p v).resetReq = s.resetReq := rfl
@[simp] theorem State.portWrite_upset (s : State) (p : Word) (v : Byte) : (s.portWrite p v).upset = s.upset := rfl
@[simp] theorem State.portWrite_mem (s : State) (p : Word) (v : Byte) : (s.portWrite p v).mem = s.mem := rfl
@[simp] theorem State.portWrite_params (s : State) (p : Word) (v : Byte) : (s.portWrite p v).params = s.params := rfl
@[simp] theorem State.portWrite_pins (s : State) (p : Word) (v : Byte) : (s.portWrite p v).pins = s.pins := rfl
@[simp] theorem State.portWrite_script (s : State) (p : Word) (v : Byte) : (s.portWrite p v).script = s.script := rfl
@[simp] theorem State.portWrite_ioIn (s : State) (p : Word) (v : Byte) : (s.portWrite p v).ioIn = s.ioIn := rfl
@[simp] theorem State.portWrite_trace (s : State) (p : Word) (v : Byte) : (s.portWrite p v).trace = .ioWrite p v :: s.trace := rfl
@[simp] theorem State.portWrite_fresh (s : State) (p : Word) (v : Byte) : (s.portWrite p v).fresh = s.fresh := rfl

/-! `State.dropBuffers` -/

@[simp] theorem State.dropBuffers_main (s : State) : s.dropBuffers.main = s.main := rfl
@[simp] theorem State.dropBuffers_alt (s : State) : s.dropBuffers.alt = s.alt := rfl
@[simp] theorem State.dropBuffers_ix (s : State) : s.dropBuffers.ix = s.ix := rfl
@[simp] theorem State.dropBuffers_iy (s : State) : s.dropBuffers.iy = s.iy := rfl
@[simp] theorem State.dropBuffers_sp (s : State) : s.dropBuffers.sp = s.sp := rfl
@[simp] theorem State.dropBuffers_pc (s : State) : s.dropBuffers.pc = s.pc := rfl
@[simp] theorem State.dropBuffers_i (s : State) : s.dropBuffers.i = s.i := rfl
@[simp] theorem State.dropBuffers_r (s : State) : s.dropBuffers.r = s.r := rfl
@[simp] theorem State.dropBuffers_iff1 (s : State) : s.dropBuffers.iff1 = s.iff1 := rfl
@[simp] theorem State.dropBuffers_iff2 (s : State) : s.dropBuffers.iff2 = s.iff2 := rfl
@[simp] theorem State.dropBuffers_im (s : State) : s.dropBuffers.im = s.im := rfl
@[simp] theorem State.dropBuffers_runState (s : State) : s.dropBuffers.runState = s.runState := rfl
@[simp] theorem State.dropBuffers_nmiPending (s : State) : s.dropBuffers.nmiPending = s.nmiPending := rfl
@[simp] theorem State.dropBuffers_prefetched (s : State) : s.dropBuffers.prefetched = none := rfl
@[simp] theorem State.dropBuffers_repeating (s : State) : s.dropBuffers.repeating = none := rfl
@[simp] theorem State.dropBuffers_wpPending (s : State) : s.dropBuffers.wpPending = s.wpPending := rfl
@[simp] theorem State.dropBuffers_noSample (s : State) : s.dropBuffers.noSample = s.noSample := rfl
@[simp] theorem State.dropBuffers_reqSeen (s : State) : s.dropBuffers.reqSeen = s.reqSeen := rfl
@[simp] theorem State.dropBuffers_mmu (s : State) : s.dropBuffers.mmu = s.mmu := rfl
@[simp] theorem State.dropBuffers_irq (s : State) : s.dropBuffers.irq = s.irq := rfl
@[simp] theorem State.dropBuffers_dma (s : State) : s.dropBuffers.dma = s.dma := rfl
@[simp] theorem State.dropBuffers_wdt (s : State) : s.dropBuffers.wdt = s.wdt := rfl
@[simp] theorem State.dropBuffers_rti (s : State) : s.dropBuffers.rti = s.rti := rfl
@[simp] theorem State.dropBuffers_resetFilter (s : State) : s.dropBuffers.resetFilter = s.resetFilter := rfl
@[simp] theorem State.dropBuffers_sys (s : State) : s.dropBuffers.sys = s.sys := rfl
@[simp] theorem State.dropBuffers_fatalDetect (s : State) : s.dropBuffers.fatalDetect = s.fatalDetect := rfl
@[simp] theorem State.dropBuffers_resetReq (s : State) : s.dropBuffers.resetReq = s.resetReq := rfl
@[simp] theorem State.dropBuffers_upset (s : State) : s.dropBuffers.upset = s.upset := rfl
@[simp] theorem State.dropBuffers_mem (s : State) : s.dropBuffers.mem = s.mem := rfl
@[simp] theorem State.dropBuffers_params (s : State) : s.dropBuffers.params = s.params := rfl
@[simp] theorem State.dropBuffers_pins (s : State) : s.dropBuffers.pins = s.pins := rfl
@[simp] theorem State.dropBuffers_script (s : State) : s.dropBuffers.script = s.script := rfl
@[simp] theorem State.dropBuffers_ioIn (s : State) : s.dropBuffers.ioIn = s.ioIn := rfl
@[simp] theorem State.dropBuffers_trace (s : State) : s.dropBuffers.trace = s.trace := rfl
@[simp] theorem State.dropBuffers_fresh (s : State) : s.dropBuffers.fresh = s.fresh := rfl

/-! `State.fatalError` -/

@[simp] theorem State.fatalError_main (s : State) : s.fatalError.main = s.main := rfl
@[simp] theorem State.fatalError_alt (s : State) : s.fatalError.alt = s.alt := rfl
@[simp] theorem State.fatalError_ix (s : State) : s.fatalError.ix = s.ix := rfl
@[simp] theorem State.fatalError_iy (s : State) : s.fatalError.iy = s.iy := rfl
@[simp] theorem State.fatalError_sp (s : State) : s.fatalError.sp = s.sp := rfl
@[simp] theorem State.fatalError_pc (s : State) : s.fatalError.pc = s.pc := rfl
@[simp] theorem State.fatalError_i (s : State) : s.fatalError.i = s.i := rfl
@[simp] theorem State.fatalError_r (s : State) : s.fatalError.r = s.r := rfl
@[simp] theorem State.fatalError_iff1 (s : State) : s.fatalError.iff1 = s.iff1 := rfl
@[simp] theorem State.fatalError_iff2 (s : State) : s.fatalError.iff2 = s.iff2 := rfl
@[simp] theorem State.fatalError_im (s : State) : s.fatalError.im = s.im := rfl
@[simp] theorem State.fatalError_runState (s : State) : s.fatalError.runState = s.runState := rfl
@[simp] theorem State.fatalError_nmiPending (s : State) : s.fatalError.nmiPending = s.nmiPending := rfl
@[simp] theorem State.fatalError_prefetched (s : State) : s.fatalError.prefetched = s.prefetched := rfl
@[simp] theorem State.fatalError_repeating (s : State) : s.fatalError.repeating = s.repeating := rfl
@[simp] theorem State.fatalError_wpPending (s : State) : s.fatalError.wpPending = s.wpPending := rfl
@[simp] theorem State.fatalError_noSample (s : State) : s.fatalError.noSample = s.noSample := rfl
@[simp] theorem State.fatalError_reqSeen (s : State) : s.fatalError.reqSeen = s.reqSeen := rfl
@[simp] theorem State.fatalError_mmu (s : State) : s.fatalError.mmu = s.mmu := rfl
@[simp] theorem State.fatalError_irq (s : State) : s.fatalError.irq = s.irq := rfl
@[simp] theorem State.fatalError_dma (s : State) : s.fatalError.dma = s.dma := rfl
@[simp] theorem State.fatalError_wdt (s : State) : s.fatalError.wdt = s.wdt := rfl
@[simp] theorem State.fatalError_rti (s : State) : s.fatalError.rti = s.rti := rfl
@[simp] theorem State.fatalError_resetFilter (s : State) : s.fatalError.resetFilter = s.resetFilter := rfl
@[simp] theorem State.fatalError_sys (s : State) : s.fatalError.sys = { s.sys with rstFatal := true } := rfl
@[simp] theorem State.fatalError_fatalDetect (s : State) : s.fatalError.fatalDetect = true := rfl
@[simp] theorem State.fatalError_resetReq (s : State) : s.fatalError.resetReq = true := rfl
@[simp] theorem State.fatalError_upset (s : State) : s.fatalError.upset = s.upset := rfl
@[simp] theorem State.fatalError_mem (s : State) : s.fatalError.mem = s.mem := rfl
@[simp] theorem State.fatalError_params (s : State) : s.fatalError.params = s.params := rfl
@[simp] theorem State.fatalError_pins (s : State) : s.fatalError.pins = s.pins := rfl
@[simp] theorem State.fatalError_script (s : State) : s.fatalError.script = s.script := rfl
@[simp] theorem State.fatalError_ioIn (s : State) : s.fatalError.ioIn = s.ioIn := rfl
@[simp] theorem State.fatalError_trace (s : State) : s.fatalError.trace = s.trace := rfl
@[simp] theorem State.fatalError_fresh (s : State) : s.fatalError.fresh = s.fresh := rfl

/-! `State.setIdx` -/

@[simp] theorem State.setIdx_main (s : State) (y : Idx) (v : Word) : (s.setIdx y v).main = s.main := by cases y <;> rfl
@[simp] theorem State.setIdx_alt (s : State) (y : Idx) (v : Word) : (s.setIdx y v).alt = s.alt := by cases y <;> rfl
@[simp] theorem State.setIdx_sp (s : State) (y : Idx) (v : Word) : (s.setIdx y v).sp = s.sp := by cases y <;> rfl
@[simp] theorem State.setIdx_pc (s : State) (y : Idx) (v : Word) : (s.setIdx y v).pc = s.pc := by cases y <;> rfl
@[simp] theorem State.setIdx_i (s : State) (y : Idx) (v : Word) : (s.setIdx y v).i = s.i := by cases y <;> rfl
@[simp] theorem State.setIdx_r (s : State) (y : Idx) (v : Word) : (s.setIdx y v).r = s.r := by cases y <;> rfl
@[simp] theorem State.setIdx_iff1 (s : State) (y : Idx) (v : Word) : (s.setIdx y v).iff1 = s.iff1 := by cases y <;> rfl
@[simp] theorem State.setIdx_iff2 (s : State) (y : Idx) (v : Word) : (s.setIdx y v).iff2 = s.iff2 := by cases y <;> rfl
@[simp] theorem State.setIdx_im (s : State) (y : Idx) (v : Word) : (s.setIdx y v).im = s.im := by cases y <;> rfl
@[simp] theorem State.setIdx_runState (s : State) (y : Idx) (v : Word) : (s.setIdx y v).runState = s.runState := by cases y <;> rfl
@[simp] theorem State.setIdx_nmiPending (s : State) (y : Idx) (v : Word) : (s.setIdx y v).nmiPending = s.nmiPending := by cases y <;> rfl
@[simp] theorem State.setIdx_prefetched (s : State) (y : Idx) (v : Word) : (s.setIdx y v).prefetched = s.prefetched := by cases y <;> rfl
@[simp] theorem State.setIdx_repeating (s : State) (y : Idx) (v : Word) : (s.setIdx y v).repeating = s.repeating := by cases y <;> rfl
@[simp] theorem State.setIdx_wpPending (s : State) (y : Idx) (v : Word) : (s.setIdx y v).wpPending = s.wpPending := by cases y <;> rfl
@[simp] theorem State.setIdx_noSample (s : State) (y : Idx) (v : Word) : (s.setIdx y v).noSample = s.noSample := by cases y <;> rfl
@[simp] theorem State.setIdx_reqSeen (s : State) (y : Idx) (v : Word) : (s.setIdx y v).reqSeen = s.reqSeen := by cases y <;> rfl
@[simp] theorem State.setIdx_mmu (s : State) (y : Idx) (v : Word) : (s.setIdx y v).mmu = s.mmu := by cases y <;> rfl
@[simp] theorem State.setIdx_irq (s : State) (y : Idx) (v : Word) : (s.setIdx y v).irq = s.irq := by cases y <;> rfl
@[simp] theorem State.setIdx_dma (s : State) (y : Idx) (v : Word) : (s.setIdx y v).dma = s.dma := by cases y <;> rfl
@[simp] theorem State.setIdx_wdt (s : State) (y : Idx) (v : Word) : (s.setIdx y v).wdt = s.wdt := by cases y <;> rfl
@[simp] theorem State.setIdx_rti (s : State) (y : Idx) (v : Word) : (s.setIdx y v).rti = s.rti := by cases y <;> rfl
@[simp] theorem State.setIdx_resetFilter (s : State) (y : Idx) (v : Word) : (s.setIdx y v).resetFilter = s.resetFilter := by cases y <;> rfl
@[simp] theorem State.setIdx_sys (s : State) (y : Idx) (v : Word) : (s.setIdx y v).sys = s.sys := by cases y <;> rfl
@[simp] theorem State.setIdx_fatalDetect (s : State) (y : Idx) (v : Word) : (s.setIdx y v).fatalDetect = s.fatalDetect := by cases y <;> rfl
@[simp] theorem State.setIdx_resetReq (s : State) (y : Idx) (v : Word) : (s.setIdx y v).resetReq = s.resetReq := by cases y <;> rfl
@[simp] theorem State.setIdx_upset (s : State) (y : Idx) (v : Word) : (s.setIdx y v).upset = s.upset := by cases y <;> rfl
@[simp] theorem State.setIdx_mem (s : State) (y : Idx) (v : Word) : (s.setIdx y v).mem = s.mem := by cases y <;> rfl
@[simp] theorem State.setIdx_params (s : State) (y : Idx) (v : Word) : (s.setIdx y v).params = s.params := by cases y <;> rfl
@[simp] theorem State.setIdx_pins (s : State) (y : Idx) (v : Word) : (s.setIdx y v).pins = s.pins := by cases y <;> rfl
@[simp] theorem State.setIdx_script (s : State) (y : Idx) (v : Word) : (s.setIdx y v).script = s.script := by cases y <;> rfl
@[simp] theorem State.setIdx_ioIn (s : State) (y : Idx) (v : Word) : (s.setIdx y v).ioIn = s.ioIn := by cases y <;> rfl
@[simp] theorem State.setIdx_trace (s : State) (y : Idx) (v : Word) : (s.setIdx y v).trace = s.trace := by cases y <;> rfl
@[simp] theorem State.setIdx_fresh (s : State) (y : Idx) (v : Word) : (s.setIdx y v).fresh = s.fresh := by cases y <;> rfl

/-! `State.setRp` -/

@[simp] theorem State.setRp_alt (s : State) (r : RegSs) (v : Word) : (s.setRp r v).alt = s.alt := by cases r <;> rfl
@[simp] theorem State.setRp_ix (s : State) (r : RegSs) (v : Word) : (s.setRp r v).ix = s.ix := by cases r <;> rfl
@[simp] theorem State.setRp_iy (s : State) (r : RegSs) (v : Word) : (s.setRp r v).iy = s.iy := by cases r <;> rfl
@[simp] theorem State.setRp_pc (s : State) (r : RegSs) (v : Word) : (s.setRp r v).pc = s.pc := by cases r <;> rfl
@[simp] theorem State.setRp_i (s : State) (r : RegSs) (v : Word) : (s.setRp r v).i = s.i := by cases r <;> rfl
@[simp] theorem State.setRp_r (s : State) (r : RegSs) (v : Word) : (s.setRp r v).r = s.r := by cases r <;> rfl
@[simp] theorem State.setRp_iff1 (s : State) (r : RegSs) (v : Word) : (s.setRp r v).iff1 = s.iff1 := by cases r <;> rfl
@[simp] theorem State.setRp_iff2 (s : State) (r : RegSs) (v : Word) : (s.setRp r v).iff2 = s.iff2 := by cases r <;> rfl
@[simp] theorem State.setRp_im (s : State) (r : RegSs) (v : Word) : (s.setRp r v).im = s.im := by cases r <;> rfl
@[simp] theorem State.setRp_runState (s : State) (r : RegSs) (v : Word) : (s.setRp r v).runState = s.runState := by cases r <;> rfl
@[simp] theorem State.setRp_nmiPending (s : State) (r : RegSs) (v : Word) : (s.setRp r v).nmiPending = s.nmiPending := by cases r <;> rfl
@[simp] theorem State.setRp_prefetched (s : State) (r : RegSs) (v : Word) : (s.setRp r v).prefetched = s.prefetched := by cases r <;> rfl
@[simp] theorem State.setRp_repeating (s : State) (r : RegSs) (v : Word) : (s.setRp r v).repeating = s.repeating := by cases r <;> rfl
@[simp] theorem State.setRp_wpPending (s : State) (r : RegSs) (v : Word) : (s.setRp r v).wpPending = s.wpPending := by cases r <;> rfl
@[simp] theorem State.setRp_noSample (s : State) (r : RegSs) (v : Word) : (s.setRp r v).noSample = s.noSample := by cases r <;> rfl
@[simp] theorem State.setRp_reqSeen (s : State) (r : RegSs) (v : Word) : (s.setRp r v).reqSeen = s.reqSeen := by cases r <;> rfl
@[simp] theorem State.setRp_mmu (s : State) (r : RegSs) (v : Word) : (s.setRp r v).mmu = s.mmu := by cases r <;> rfl
@[simp] theorem State.setRp_irq (s : State) (r : RegSs) (v : Word) : (s.setRp r v).irq = s.irq := by cases r <;> rfl
@[simp] theorem State.setRp_dma (s : State) (r : RegSs) (v : Word) : (s.setRp r v).dma = s.dma := by cases r <;> rfl
@[simp] theorem State.setRp_wdt (s : State) (r : RegSs) (v : Word) : (s.setRp r v).wdt = s.wdt := by cases r <;> rfl
@[simp] theorem State.setRp_rti (s : State) (r : RegSs) (v : Word) : (s.setRp r v).rti = s.rti := by cases r <;> rfl
@[simp] theorem State.setRp_resetFilter (s : State) (r : RegSs) (v : Word) : (s.setRp r v).resetFilter = s.resetFilter := by cases r <;> rfl
@[simp] theorem State.setRp_sys (s : State) (r : RegSs) (v : Word) : (s.setRp r v).sys = s.sys := by cases r <;> rfl
@[simp] theorem State.setRp_fatalDetect (s : State) (r : RegSs) (v : Word) : (s.setRp r v).fatalDetect = s.fatalDetect := by cases r <;> rfl
@[simp] theorem State.setRp_resetReq (s : State) (r : RegSs) (v : Word) : (s.setRp r v).resetReq = s.resetReq := by cases r <;> rfl
@[simp] theorem State.setRp_upset (s : State) (r : RegSs) (v : Word) : (s.setRp r v).upset = s.upset := by cases r <;> rfl
@[simp] theorem State.setRp_mem (s : State) (r : RegSs) (v : Word) : (s.setRp r v).mem = s.mem := by cases r <;> rfl
@[simp] theorem State.setRp_params (s : State) (r : RegSs) (v : Word) : (s.setRp r v).params = s.params := by cases r <;> rfl
@[simp] theorem State.setRp_pins (s : State) (r : RegSs) (v : Word) : (s.setRp r v).pins = s.pins := by cases r <;> rfl
@[simp] theorem State.setRp_script (s : State) (r : RegSs) (v : Word) : (s.setRp r v).script = s.script := by cases r <;> rfl
@[simp] theorem State.setRp_ioIn (s : State) (r : RegSs) (v : Word) : (s.setRp r v).ioIn = s.ioIn := by cases r <;> rfl
@[simp] theorem State.setRp_trace (s : State) (r : RegSs) (v : Word) : (s.setRp r v).trace = s.trace := by cases r <;> rfl
@[simp] theorem State.setRp_fresh (s : State) (r : RegSs) (v : Word) : (s.setRp r v).fresh = s.fresh := by cases r <;> rfl

/-! `State.setRpTt` -/

@[simp] theorem State.setRpTt_alt (s : State) (r : RegTt) (v : Word) : (s.setRpTt r v).alt = s.alt := by cases r <;> rfl
@[simp] theorem State.setRpTt_ix (s : State) (r : RegTt) (v : Word) : (s.setRpTt r v).ix = s.ix := by cases r <;> rfl
@[simp] theorem State.setRpTt_iy (s : State) (r : RegTt) (v : Word) : (s.setRpTt r v).iy = s.iy := by cases r <;> rfl
@[simp] theorem State.setRpTt_sp (s : State) (r : RegTt) (v : Word) : (s.setRpTt r v).sp = s.sp := by cases r <;> rfl
@[simp] theorem State.setRpTt_pc (s : State) (r : RegTt) (v : Word) : (s.setRpTt r v).pc = s.pc := by cases r <;> rfl
@[simp] theorem State.setRpTt_i (s : State) (r : RegTt) (v : Word) : (s.setRpTt r v).i = s.i := by cases r <;> rfl
@[simp] theorem State.setRpTt_r (s : State) (r : RegTt) (v : Word) : (s.setRpTt r v).r = s.r := by cases r <;> rfl
@[simp] theorem State.setRpTt_iff1 (s : State) (r : RegTt) (v : Word) : (s.setRpTt r v).iff1 = s.iff1 := by cases r <;> rfl
@[simp] theorem State.setRpTt_iff2 (s : State) (r : RegTt) (v : Word) : (s.setRpTt r v).iff2 = s.iff2 := by cases r <;> rfl
@[simp] theorem State.setRpTt_im (s : State) (r : RegTt) (v : Word) : (s.setRpTt r v).im = s.im := by cases r <;> rfl
@[simp] theorem State.setRpTt_runState (s : State) (r : RegTt) (v : Word) : (s.setRpTt r v).runState = s.runState := by cases r <;> rfl
@[simp] theorem State.setRpTt_nmiPending (s : State) (r : RegTt) (v : Word) : (s.setRpTt r v).nmiPending = s.nmiPending := by cases r <;> rfl
@[simp] theorem State.setRpTt_prefetched (s : State) (r : RegTt) (v : Word) : (s.setRpTt r v).prefetched = s.prefetched := by cases r <;> rfl
@[simp] theorem State.setRpTt_repeating (s : State) (r : RegTt) (v : Word) : (s.setRpTt r v).repeating = s.repeating := by cases r <;> rfl
@[simp] theorem State.setRpTt_wpPending (s : State) (r : RegTt) (v : Word) : (s.setRpTt r v).wpPending = s.wpPending := by cases r <;> rfl
@[simp] theorem State.setRpTt_noSample (s : State) (r : RegTt) (v : Word) : (s.setRpTt r v).noSample = s.noSample := by cases r <;> rfl
@[simp] theorem State.setRpTt_reqSeen (s : State) (r : RegTt) (v : Word) : (s.setRpTt r v).reqSeen = s.reqSeen := by cases r <;> rfl
@[simp] theorem State.setRpTt_mmu (s : State) (r : RegTt) (v : Word) : (s.setRpTt r v).mmu = s.mmu := by cases r <;> rfl
@[simp] theorem State.setRpTt_irq (s : State) (r : RegTt) (v : Word) : (s.setRpTt r v).irq = s.irq := by cases r <;> rfl
@[simp] theorem State.setRpTt_dma (s : State) (r : RegTt) (v : Word) : (s.setRpTt r v).dma = s.dma := by cases r <;> rfl
@[simp] theorem State.setRpTt_wdt (s : State) (r : RegTt) (v : Word) : (s.setRpTt r v).wdt = s.wdt := by cases r <;> rfl
@[simp] theorem State.setRpTt_rti (s : State) (r : RegTt) (v : Word) : (s.setRpTt r v).rti = s.rti := by cases r <;> rfl
@[simp] theorem State.setRpTt_resetFilter (s : State) (r : RegTt) (v : Word) : (s.setRpTt r v).resetFilter = s.resetFilter := by cases r <;> rfl
@[simp] theorem State.setRpTt_sys (s : State) (r : RegTt) (v : Word) : (s.setRpTt r v).sys = s.sys := by cases r <;> rfl
@[simp] theorem State.setRpTt_fatalDetect (s : State) (r : RegTt) (v : Word) : (s.setRpTt r v).fatalDetect = s.fatalDetect := by cases r <;> rfl
@[simp] theorem State.setRpTt_resetReq (s : State) (r : RegTt) (v : Word) : (s.setRpTt r v).resetReq = s.resetReq := by cases r <;> rfl
@[simp] theorem State.setRpTt_upset (s : State) (r : RegTt) (v : Word) : (s.setRpTt r v).upset = s.upset := by cases r <;> rfl
@[simp] theorem State.setRpTt_mem (s : State) (r : RegTt) (v : Word) : (s.setRpTt r v).mem = s.mem := by cases r <;> rfl
@[simp] theorem State.setRpTt_params (s : State) (r : RegTt) (v : Word) : (s.setRpTt r v).params = s.params := by cases r <;> rfl
@[simp] theorem State.setRpTt_pins (s : State) (r : RegTt) (v : Word) : (s.setRpTt r v).pins = s.pins := by cases r <;> rfl
@[simp] theorem State.setRpTt_script (s : State) (r : RegTt) (v : Word) : (s.setRpTt r v).script = s.script := by cases r <;> rfl
@[simp] theorem State.setRpTt_ioIn (s : State) (r : RegTt) (v : Word) : (s.setRpTt r v).ioIn = s.ioIn := by cases r <;> rfl
@[simp] theorem State.setRpTt_trace (s : State) (r : RegTt) (v : Word) : (s.setRpTt r v).trace = s.trace := by cases r <;> rfl
@[simp] theorem State.setRpTt_fresh (s : State) (r : RegTt) (v : Word) : (s.setRpTt r v).fresh = s.fresh := by cases r <;> rfl

/-! The flags after `State.setFlags`: the named ones as given, U5 and U3 free (R41). -/

@[simp] theorem State.setFlags_flag_s (s : State) (f : Flags) : (s.setFlags f).main.f.s = f.s := rfl
@[simp] theorem State.setFlags_flag_z (s : State) (f : Flags) : (s.setFlags f).main.f.z = f.z := rfl
@[simp] theorem State.setFlags_flag_h (s : State) (f : Flags) : (s.setFlags f).main.f.h = f.h := rfl
@[simp] theorem State.setFlags_flag_pv (s : State) (f : Flags) : (s.setFlags f).main.f.pv = f.pv := rfl
@[simp] theorem State.setFlags_flag_n (s : State) (f : Flags) : (s.setFlags f).main.f.n = f.n := rfl
@[simp] theorem State.setFlags_flag_c (s : State) (f : Flags) : (s.setFlags f).main.f.c = f.c := rfl
@[simp] theorem State.setFlags_reg_a (s : State) (f : Flags) : (s.setFlags f).main.a = s.main.a := rfl
@[simp] theorem State.setFlags_reg_b (s : State) (f : Flags) : (s.setFlags f).main.b = s.main.b := rfl
@[simp] theorem State.setFlags_reg_c (s : State) (f : Flags) : (s.setFlags f).main.c = s.main.c := rfl
@[simp] theorem State.setFlags_reg_d (s : State) (f : Flags) : (s.setFlags f).main.d = s.main.d := rfl
@[simp] theorem State.setFlags_reg_e (s : State) (f : Flags) : (s.setFlags f).main.e = s.main.e := rfl
@[simp] theorem State.setFlags_reg_h (s : State) (f : Flags) : (s.setFlags f).main.h = s.main.h := rfl
@[simp] theorem State.setFlags_reg_l (s : State) (f : Flags) : (s.setFlags f).main.l = s.main.l := rfl

/-! Registers read back. -/

@[simp] theorem State.setR8_same (s : State) (r : Reg8) (v : Byte) : (s.setR8 r v).r8 r = v := by cases r <;> rfl

theorem State.setR8_other (s : State) (r q : Reg8) (v : Byte) (h : q ≠ r) : (s.setR8 r v).r8 q = s.r8 q := by
  cases r <;> cases q <;> first | rfl | exact absurd rfl h

@[simp] theorem State.setR8_flags (s : State) (r : Reg8) (v : Byte) : (s.setR8 r v).main.f = s.main.f := by cases r <;> rfl

@[simp] theorem State.setFlags_r8 (s : State) (f : Flags) (r : Reg8) : (s.setFlags f).r8 r = s.r8 r := by cases r <;> rfl

/-- A word is its two halves. -/
theorem high_append_low (w : Word) : high w ++ low w = w := by
  unfold high low
  ext i hi
  simp only [BitVec.getElem_append, BitVec.getElem_extractLsb']
  split
  · rw [Nat.zero_add]; exact BitVec.getLsbD_eq_getElem hi
  · rw [show 8 + (i - 8) = i by omega]; exact BitVec.getLsbD_eq_getElem hi

@[simp] theorem low_append (a b : Byte) : low (a ++ b) = b := by
  unfold low
  ext i hi
  rw [BitVec.getElem_extractLsb', Nat.zero_add]
  exact BitVec.getLsbD_append.trans (by simp [hi])

@[simp] theorem high_append (a b : Byte) : high (a ++ b) = a := by
  unfold high
  ext i hi
  rw [BitVec.getElem_extractLsb']
  exact BitVec.getLsbD_append.trans (by simp [hi])

@[simp] theorem State.setBc_bc (s : State) (v : Word) : (s.setBc v).bc = v := high_append_low v

@[simp] theorem State.setDe_de (s : State) (v : Word) : (s.setDe v).de = v := high_append_low v

@[simp] theorem State.setHl_hl (s : State) (v : Word) : (s.setHl v).hl = v := high_append_low v

@[simp] theorem State.setRp_rp (s : State) (r : RegSs) (v : Word) : (s.setRp r v).rp r = v := by
  cases r
  · exact high_append_low v
  · exact high_append_low v
  · exact high_append_low v
  · rfl

@[simp] theorem State.setIdx_idx (s : State) (y : Idx) (v : Word) : (s.setIdx y v).idx y = v := by cases y <;> rfl

end Sys2Proof.Machine
end

