-- ==== Sys2Proof/Laws/Memory.lean ====
section
/-! SUPPORT. What memory operations do: read after write, the canonical form, and what a write, a push or a word write can change. -/

namespace Sys2Proof.Machine

open Sys2Proof

/-- The byte a list of cells holds at an address. -/
theorem Memory.read_eq (m : Memory) (a : Nat) :
    m.read a = ((m.cells.find? (fun x => x.1 == a)).map Prod.snd).getD Memory.absent := by
  unfold Memory.read
  cases m.cells.find? (fun x => x.1 == a) <;> rfl

theorem Memory.find_insert_same (a : Nat) (v : Byte) (cs : List Host.Cell) (h : ∀ x ∈ cs, x.1 ≠ a) :
    (Memory.insertCell (a, v) cs).find? (fun x => x.1 == a) = some (a, v) := by
  induction cs with
  | nil => simp [Memory.insertCell]
  | cons y ys ih =>
    have hy : y.1 ≠ a := h y (by simp)
    simp only [Memory.insertCell]
    split
    · simp
    · rw [List.find?_cons_of_neg (by simpa using hy)]
      exact ih (fun x hx => h x (by simp [hx]))

theorem Memory.find_insert_other (a b : Nat) (v : Byte) (cs : List Host.Cell) (h : b ≠ a) :
    (Memory.insertCell (a, v) cs).find? (fun x => x.1 == b) = cs.find? (fun x => x.1 == b) := by
  induction cs with
  | nil => simp [Memory.insertCell, Ne.symm h]
  | cons y ys ih =>
    simp only [Memory.insertCell]
    split
    · rw [List.find?_cons_of_neg (by simpa using Ne.symm h)]
    · by_cases hy : y.1 = b
      · rw [List.find?_cons_of_pos (by simpa using hy), List.find?_cons_of_pos (by simpa using hy)]
      · rw [List.find?_cons_of_neg (by simpa using hy), List.find?_cons_of_neg (by simpa using hy), ih]

theorem Memory.find_filter_other (a b : Nat) (cs : List Host.Cell) (h : b ≠ a) :
    (cs.filter (fun x => x.1 != a)).find? (fun x => x.1 == b) = cs.find? (fun x => x.1 == b) := by
  induction cs with
  | nil => rfl
  | cons y ys ih =>
    by_cases hy : y.1 = b
    · rw [List.filter_cons_of_pos (by simpa [hy] using h), List.find?_cons_of_pos (by simpa using hy),
        List.find?_cons_of_pos (by simpa using hy)]
    · rw [List.find?_cons_of_neg (by simpa using hy)]
      by_cases ha : y.1 = a
      · rw [List.filter_cons_of_neg (by simpa using ha), ih]
      · rw [List.filter_cons_of_pos (by simpa using ha), List.find?_cons_of_neg (by simpa using hy), ih]

/-- A read after a write to the same address gives the value written. -/
@[simp] theorem Memory.read_store_same (m : Memory) (a : Nat) (v : Byte) : (m.store a v).read a = v := by
  rw [Memory.read_eq]
  simp only [Memory.store]
  split
  · next hv =>
    rw [List.find?_eq_none.mpr (by simp)]
    simpa using hv.symm
  · rw [Memory.find_insert_same a v _ (by simp)]
    rfl

/-- A write leaves every other address alone. -/
theorem Memory.read_store_other (m : Memory) (a b : Nat) (v : Byte) (h : b ≠ a) : (m.store a v).read b = m.read b := by
  rw [Memory.read_eq, Memory.read_eq]
  simp only [Memory.store]
  split
  · rw [Memory.find_filter_other a b _ h]
  · rw [Memory.find_insert_other a b v _ h, Memory.find_filter_other a b _ h]

/-- Both read laws at once. -/
theorem Memory.read_store (m : Memory) (a b : Nat) (v : Byte) :
    (m.store a v).read b = if b = a then v else m.read b := by
  split
  · next h => rw [h, Memory.read_store_same]
  · next h => exact Memory.read_store_other m a b v h

theorem Memory.mem_insertCell (x z : Host.Cell) (cs : List Host.Cell) : z ∈ Memory.insertCell x cs ↔ z = x ∨ z ∈ cs := by
  induction cs with
  | nil => simp [Memory.insertCell]
  | cons y ys ih =>
    simp only [Memory.insertCell]
    split
    · simp
    · simp only [List.mem_cons, ih]
      tauto

theorem Memory.pairwise_insertCell (x : Host.Cell) (cs : List Host.Cell) (hp : cs.Pairwise (fun y z => y.1 < z.1))
    (hx : ∀ y ∈ cs, y.1 ≠ x.1) : (Memory.insertCell x cs).Pairwise (fun y z => y.1 < z.1) := by
  induction cs with
  | nil => simp [Memory.insertCell]
  | cons y ys ih =>
    rw [List.pairwise_cons] at hp
    simp only [Memory.insertCell]
    split
    · next hlt =>
      rw [List.pairwise_cons, List.pairwise_cons]
      refine ⟨?_, hp⟩
      intro z hz
      rcases List.mem_cons.mp hz with rfl | hz
      · exact hlt
      · exact lt_trans hlt (hp.1 z hz)
    · next hge =>
      rw [List.pairwise_cons]
      refine ⟨?_, ih hp.2 (fun z hz => hx z (by simp [hz]))⟩
      intro z hz
      have hyx := hx y (by simp)
      rcases (Memory.mem_insertCell x z ys).mp hz with rfl | hz
      · omega
      · exact hp.1 z hz

/-- Every cell of a memory after a store is the stored one or an old one. -/
theorem Memory.mem_store (m : Memory) (a : Nat) (v : Byte) (x : Host.Cell) (h : x ∈ (m.store a v).cells) :
    x = (a, v) ∧ v ≠ Memory.absent ∨ x ∈ m.cells := by
  simp only [Memory.store] at h
  split at h
  · exact .inr (List.mem_of_mem_filter h)
  · next hv =>
    rcases (Memory.mem_insertCell _ _ _).mp h with rfl | h
    · exact .inl ⟨rfl, hv⟩
    · exact .inr (List.mem_of_mem_filter h)

/-- A store keeps the canonical form. -/
theorem Memory.wf_store (m : Memory) (a : Nat) (v : Byte) (h : m.wf) : (m.store a v).wf := by
  refine ⟨?_, ?_⟩
  · have hp := h.1.filter (fun x => x.1 != a)
    simp only [Memory.store]
    split
    · exact hp
    · exact Memory.pairwise_insertCell _ _ hp (by intro y hy; simpa using (List.mem_filter.mp hy).2)
  · intro x hx
    rcases Memory.mem_store m a v x hx with ⟨rfl, hv⟩ | hx
    · exact hv
    · exact h.2 x hx

/-- A store below a bound keeps every address below it. -/
theorem Memory.bounded_store (m : Memory) (a n : Nat) (v : Byte) (ha : a < n) (h : ∀ x ∈ m.cells, x.1 < n) :
    ∀ x ∈ (m.store a v).cells, x.1 < n := by
  intro x hx
  rcases Memory.mem_store m a v x hx with ⟨rfl, _⟩ | hx
  · exact ha
  · exact h x hx

/-- Translation looks at the parameters and the active translation registers only. -/
theorem State.translate_congr (s t : State) (la : Word) (hp : t.params = s.params) (hm : t.mmu = s.mmu) :
    t.translate la = s.translate la := by
  simp only [State.translate, hp, hm]

/-- A protection predicate looks at the parameters and the pins only. -/
theorem State.wrInh_congr (s t : State) (pa : Phys) (hp : t.params = s.params) (hq : t.pins = s.pins) :
    t.wrInh pa = s.wrInh pa := by
  simp only [State.wrInh, State.isMpu, hp, hq]

/-- What one memory write can do (R85): store the byte, or record the trap. -/
theorem State.writeByte_cases (s : State) (stack : Bool) (la : Word) (v : Byte) :
    (s.wrInh (s.translate la) = false ∧
      s.writeByte stack la v = { s with mem := s.mem.store (s.translate la).toNat v }) ∨
    (s.wrInh (s.translate la) = true ∧ s.writeByte stack la v = s.inhibitWrite stack la) := by
  unfold State.writeByte
  cases h : s.wrInh (s.translate la) <;> simp

/-- A memory write changes memory, the trap status, and the pending trap and reset; nothing else. -/
theorem State.writeByte_frame (s : State) (stack : Bool) (la : Word) (v : Byte) :
    s.writeByte stack la v = { s with
      mem := (s.writeByte stack la v).mem
      sys := (s.writeByte stack la v).sys
      wpPending := (s.writeByte stack la v).wpPending
      fatalDetect := (s.writeByte stack la v).fatalDetect
      resetReq := (s.writeByte stack la v).resetReq } := by
  rcases s.writeByte_cases stack la v with ⟨_, h⟩ | ⟨_, h⟩
  · rw [h]
  · rw [h]
    cases stack <;> rfl

@[simp] theorem State.writeByte_main (s : State) (stack : Bool) (la : Word) (v : Byte) :
    (s.writeByte stack la v).main = s.main := by
  rw [State.writeByte_frame]

@[simp] theorem State.writeByte_alt (s : State) (stack : Bool) (la : Word) (v : Byte) :
    (s.writeByte stack la v).alt = s.alt := by
  rw [State.writeByte_frame]

@[simp] theorem State.writeByte_ix (s : State) (stack : Bool) (la : Word) (v : Byte) :
    (s.writeByte stack la v).ix = s.ix := by
  rw [State.writeByte_frame]

@[simp] theorem State.writeByte_iy (s : State) (stack : Bool) (la : Word) (v : Byte) :
    (s.writeByte stack la v).iy = s.iy := by
  rw [State.writeByte_frame]

@[simp] theorem State.writeByte_sp (s : State) (stack : Bool) (la : Word) (v : Byte) :
    (s.writeByte stack la v).sp = s.sp := by
  rw [State.writeByte_frame]

@[simp] theorem State.writeByte_pc (s : State) (stack : Bool) (la : Word) (v : Byte) :
    (s.writeByte stack la v).pc = s.pc := by
  rw [State.writeByte_frame]

@[simp] theorem State.writeByte_i (s : State) (stack : Bool) (la : Word) (v : Byte) :
    (s.writeByte stack la v).i = s.i := by
  rw [State.writeByte_frame]

@[simp] theorem State.writeByte_r (s : State) (stack : Bool) (la : Word) (v : Byte) :
    (s.writeByte stack la v).r = s.r := by
  rw [State.writeByte_frame]

@[simp] theorem State.writeByte_iff1 (s : State) (stack : Bool) (la : Word) (v : Byte) :
    (s.writeByte stack la v).iff1 = s.iff1 := by
  rw [State.writeByte_frame]

@[simp] theorem State.writeByte_iff2 (s : State) (stack : Bool) (la : Word) (v : Byte) :
    (s.writeByte stack la v).iff2 = s.iff2 := by
  rw [State.writeByte_frame]

@[simp] theorem State.writeByte_im (s : State) (stack : Bool) (la : Word) (v : Byte) :
    (s.writeByte stack la v).im = s.im := by
  rw [State.writeByte_frame]

@[simp] theorem State.writeByte_runState (s : State) (stack : Bool) (la : Word) (v : Byte) :
    (s.writeByte stack la v).runState = s.runState := by
  rw [State.writeByte_frame]

@[simp] theorem State.writeByte_nmiPending (s : State) (stack : Bool) (la : Word) (v : Byte) :
    (s.writeByte stack la v).nmiPending = s.nmiPending := by
  rw [State.writeByte_frame]

@[simp] theorem State.writeByte_prefetched (s : State) (stack : Bool) (la : Word) (v : Byte) :
    (s.writeByte stack la v).prefetched = s.prefetched := by
  rw [State.writeByte_frame]

@[simp] theorem State.writeByte_repeating (s : State) (stack : Bool) (la : Word) (v : Byte) :
    (s.writeByte stack la v).repeating = s.repeating := by
  rw [State.writeByte_frame]

@[simp] theorem State.writeByte_noSample (s : State) (stack : Bool) (la : Word) (v : Byte) :
    (s.writeByte stack la v).noSample = s.noSample := by
  rw [State.writeByte_frame]

@[simp] theorem State.writeByte_reqSeen (s : State) (stack : Bool) (la : Word) (v : Byte) :
    (s.writeByte stack la v).reqSeen = s.reqSeen := by
  rw [State.writeByte_frame]

@[simp] theorem State.writeByte_mmu (s : State) (stack : Bool) (la : Word) (v : Byte) :
    (s.writeByte stack la v).mmu = s.mmu := by
  rw [State.writeByte_frame]

@[simp] theorem State.writeByte_irq (s : State) (stack : Bool) (la : Word) (v : Byte) :
    (s.writeByte stack la v).irq = s.irq := by
  rw [State.writeByte_frame]

@[simp] theorem State.writeByte_dma (s : State) (stack : Bool) (la : Word) (v : Byte) :
    (s.writeByte stack la v).dma = s.dma := by
  rw [State.writeByte_frame]

@[simp] theorem State.writeByte_wdt (s : State) (stack : Bool) (la : Word) (v : Byte) :
    (s.writeByte stack la v).wdt = s.wdt := by
  rw [State.writeByte_frame]

@[simp] theorem State.writeByte_rti (s : State) (stack : Bool) (la : Word) (v : Byte) :
    (s.writeByte stack la v).rti = s.rti := by
  rw [State.writeByte_frame]

@[simp] theorem State.writeByte_resetFilter (s : State) (stack : Bool) (la : Word) (v : Byte) :
    (s.writeByte stack la v).resetFilter = s.resetFilter := by
  rw [State.writeByte_frame]

@[simp] theorem State.writeByte_upset (s : State) (stack : Bool) (la : Word) (v : Byte) :
    (s.writeByte stack la v).upset = s.upset := by
  rw [State.writeByte_frame]

@[simp] theorem State.writeByte_params (s : State) (stack : Bool) (la : Word) (v : Byte) :
    (s.writeByte stack la v).params = s.params := by
  rw [State.writeByte_frame]

@[simp] theorem State.writeByte_pins (s : State) (stack : Bool) (la : Word) (v : Byte) :
    (s.writeByte stack la v).pins = s.pins := by
  rw [State.writeByte_frame]

@[simp] theorem State.writeByte_script (s : State) (stack : Bool) (la : Word) (v : Byte) :
    (s.writeByte stack la v).script = s.script := by
  rw [State.writeByte_frame]

@[simp] theorem State.writeByte_ioIn (s : State) (stack : Bool) (la : Word) (v : Byte) :
    (s.writeByte stack la v).ioIn = s.ioIn := by
  rw [State.writeByte_frame]

@[simp] theorem State.writeByte_trace (s : State) (stack : Bool) (la : Word) (v : Byte) :
    (s.writeByte stack la v).trace = s.trace := by
  rw [State.writeByte_frame]

@[simp] theorem State.writeByte_fresh (s : State) (stack : Bool) (la : Word) (v : Byte) :
    (s.writeByte stack la v).fresh = s.fresh := by
  rw [State.writeByte_frame]

/-- Memory after a write (R85): the old one if the write is inhibited. -/
theorem State.writeByte_mem (s : State) (stack : Bool) (la : Word) (v : Byte) :
    (s.writeByte stack la v).mem =
      if s.wrInh (s.translate la) = true then s.mem else s.mem.store (s.translate la).toNat v := by
  rcases s.writeByte_cases stack la v with ⟨h, e⟩ | ⟨h, e⟩
  · rw [e, h]
    rfl
  · rw [e, h]
    cases stack <;> rfl

@[simp] theorem State.writeByte_translate (s : State) (stack : Bool) (la lb : Word) (v : Byte) :
    (s.writeByte stack la v).translate lb = s.translate lb :=
  State.translate_congr _ _ _ (by simp) (by simp)

@[simp] theorem State.writeByte_wrInh (s : State) (stack : Bool) (la : Word) (v : Byte) (pa : Phys) :
    (s.writeByte stack la v).wrInh pa = s.wrInh pa :=
  State.wrInh_congr _ _ _ (by simp) (by simp)

/-- Every physical byte but the one written reads as before (R85). -/
theorem State.writeByte_read_other (s : State) (stack : Bool) (la : Word) (v : Byte) (a : Nat)
    (h : a ≠ (s.translate la).toNat) : (s.writeByte stack la v).mem.read a = s.mem.read a := by
  rw [State.writeByte_mem]
  split
  · rfl
  · exact Memory.read_store_other _ _ _ _ h

/-- A write that is not inhibited is seen by a read of the same address (R110). -/
theorem State.writeByte_read_same (s : State) (stack : Bool) (la : Word) (v : Byte)
    (h : s.wrInh (s.translate la) = false) : (s.writeByte stack la v).readByte la = v := by
  simp [State.readByte, State.writeByte_mem, h]

/-- A memory write keeps the canonical form. -/
theorem State.writeByte_wf (s : State) (stack : Bool) (la : Word) (v : Byte) (h : s.mem.wf) :
    (s.writeByte stack la v).mem.wf := by
  rw [State.writeByte_mem]
  split
  · exact h
  · exact Memory.wf_store _ _ _ h

/-- A memory write of the CPU variant is a store and nothing else (R507). -/
theorem State.writeByte_cpu (s : State) (stack : Bool) (la : Word) (v : Byte) (h : s.isMpu = false) :
    s.writeByte stack la v = { s with mem := s.mem.store (s.translate la).toNat v } := by
  rcases s.writeByte_cases stack la v with ⟨_, e⟩ | ⟨hi, _⟩
  · exact e
  · simp [State.wrInh, h] at hi

/-- A push changes memory, the trap status, the pending trap and reset, and SP; nothing else. -/
theorem State.push16_frame (s : State) (v : Word) :
    s.push16 v = { s with
      sp := s.sp - 2
      mem := (s.push16 v).mem
      sys := (s.push16 v).sys
      wpPending := (s.push16 v).wpPending
      fatalDetect := (s.push16 v).fatalDetect
      resetReq := (s.push16 v).resetReq } := by
  unfold State.push16
  rw [State.writeByte_frame (s.writeByte true (s.sp - 1) (high v)) true (s.sp - 2) (low v),
    State.writeByte_frame s true (s.sp - 1) (high v)]
  rfl

@[simp] theorem State.push16_main (s : State) (v : Word) : (s.push16 v).main = s.main := by
  rw [State.push16_frame]

@[simp] theorem State.push16_alt (s : State) (v : Word) : (s.push16 v).alt = s.alt := by
  rw [State.push16_frame]

@[simp] theorem State.push16_ix (s : State) (v : Word) : (s.push16 v).ix = s.ix := by
  rw [State.push16_frame]

@[simp] theorem State.push16_iy (s : State) (v : Word) : (s.push16 v).iy = s.iy := by
  rw [State.push16_frame]

@[simp] theorem State.push16_sp (s : State) (v : Word) : (s.push16 v).sp = s.sp - 2 := rfl

@[simp] theorem State.push16_pc (s : State) (v : Word) : (s.push16 v).pc = s.pc := by
  rw [State.push16_frame]

@[simp] theorem State.push16_i (s : State) (v : Word) : (s.push16 v).i = s.i := by
  rw [State.push16_frame]

@[simp] theorem State.push16_r (s : State) (v : Word) : (s.push16 v).r = s.r := by
  rw [State.push16_frame]

@[simp] theorem State.push16_iff1 (s : State) (v : Word) : (s.push16 v).iff1 = s.iff1 := by
  rw [State.push16_frame]

@[simp] theorem State.push16_iff2 (s : State) (v : Word) : (s.push16 v).iff2 = s.iff2 := by
  rw [State.push16_frame]

@[simp] theorem State.push16_im (s : State) (v : Word) : (s.push16 v).im = s.im := by
  rw [State.push16_frame]

@[simp] theorem State.push16_runState (s : State) (v : Word) : (s.push16 v).runState = s.runState := by
  rw [State.push16_frame]

@[simp] theorem State.push16_nmiPending (s : State) (v : Word) : (s.push16 v).nmiPending = s.nmiPending := by
  rw [State.push16_frame]

@[simp] theorem State.push16_prefetched (s : State) (v : Word) : (s.push16 v).prefetched = s.prefetched := by
  rw [State.push16_frame]

@[simp] theorem State.push16_repeating (s : State) (v : Word) : (s.push16 v).repeating = s.repeating := by
  rw [State.push16_frame]

@[simp] theorem State.push16_noSample (s : State) (v : Word) : (s.push16 v).noSample = s.noSample := by
  rw [State.push16_frame]

@[simp] theorem State.push16_reqSeen (s : State) (v : Word) : (s.push16 v).reqSeen = s.reqSeen := by
  rw [State.push16_frame]

@[simp] theorem State.push16_mmu (s : State) (v : Word) : (s.push16 v).mmu = s.mmu := by
  rw [State.push16_frame]

@[simp] theorem State.push16_irq (s : State) (v : Word) : (s.push16 v).irq = s.irq := by
  rw [State.push16_frame]

@[simp] theorem State.push16_dma (s : State) (v : Word) : (s.push16 v).dma = s.dma := by
  rw [State.push16_frame]

@[simp] theorem State.push16_wdt (s : State) (v : Word) : (s.push16 v).wdt = s.wdt := by
  rw [State.push16_frame]

@[simp] theorem State.push16_rti (s : State) (v : Word) : (s.push16 v).rti = s.rti := by
  rw [State.push16_frame]

@[simp] theorem State.push16_resetFilter (s : State) (v : Word) : (s.push16 v).resetFilter = s.resetFilter := by
  rw [State.push16_frame]

@[simp] theorem State.push16_upset (s : State) (v : Word) : (s.push16 v).upset = s.upset := by
  rw [State.push16_frame]

@[simp] theorem State.push16_params (s : State) (v : Word) : (s.push16 v).params = s.params := by
  rw [State.push16_frame]

@[simp] theorem State.push16_pins (s : State) (v : Word) : (s.push16 v).pins = s.pins := by
  rw [State.push16_frame]

@[simp] theorem State.push16_script (s : State) (v : Word) : (s.push16 v).script = s.script := by
  rw [State.push16_frame]

@[simp] theorem State.push16_ioIn (s : State) (v : Word) : (s.push16 v).ioIn = s.ioIn := by
  rw [State.push16_frame]

@[simp] theorem State.push16_trace (s : State) (v : Word) : (s.push16 v).trace = s.trace := by
  rw [State.push16_frame]

@[simp] theorem State.push16_fresh (s : State) (v : Word) : (s.push16 v).fresh = s.fresh := by
  rw [State.push16_frame]

/-- Every physical byte but the two pushed reads as before (R170). -/
theorem State.push16_read_other (s : State) (v : Word) (a : Nat) (h1 : a ≠ (s.translate (s.sp - 1)).toNat)
    (h2 : a ≠ (s.translate (s.sp - 2)).toNat) : (s.push16 v).mem.read a = s.mem.read a := by
  unfold State.push16
  rw [State.setSp_mem, State.writeByte_read_other _ _ _ _ _ (by simpa using h2), State.writeByte_read_other _ _ _ _ _ h1]

/-- A push keeps the canonical form. -/
theorem State.push16_wf (s : State) (v : Word) (h : s.mem.wf) : (s.push16 v).mem.wf :=
  State.writeByte_wf _ _ _ _ (State.writeByte_wf _ _ _ _ h)

/-- Every physical byte but the two of the word reads as before (R86). -/
theorem State.writeWord_read_other (s : State) (stack : Bool) (la v : Word) (a : Nat) (h1 : a ≠ (s.translate la).toNat)
    (h2 : a ≠ (s.translate (la + 1)).toNat) : (s.writeWord stack la v).mem.read a = s.mem.read a := by
  unfold State.writeWord
  rw [State.writeByte_read_other _ _ _ _ _ (by simpa using h2), State.writeByte_read_other _ _ _ _ _ h1]

/-- A word write keeps the canonical form. -/
theorem State.writeWord_wf (s : State) (stack : Bool) (la v : Word) (h : s.mem.wf) : (s.writeWord stack la v).mem.wf :=
  State.writeByte_wf _ _ _ _ (State.writeByte_wf _ _ _ _ h)

end Sys2Proof.Machine
end

