-- ==== Sys2Proof/Laws/Step.lean ====
section
/-! SUPPORT. Everything a step, a boundary, a fetch and the shared entries can do, each said once. -/

namespace Sys2Proof.Machine

open Sys2Proof

/-- Every transfer with a return address changes what the push changes, and PC. -/
theorem State.enter_frame (s : State) (stacked target : Word) :
    s.enter stacked target = { s with
      sp := s.sp - 2
      pc := target
      mem := (s.push16 stacked).mem
      sys := (s.push16 stacked).sys
      wpPending := (s.push16 stacked).wpPending
      fatalDetect := (s.push16 stacked).fatalDetect
      resetReq := (s.push16 stacked).resetReq } := by
  unfold State.enter
  rw [State.push16_frame]
  rfl

/-- `PC <- pop16()` changes PC and SP, nothing else (R338). -/
theorem State.leave_eq (s : State) : s.leave = { s with pc := s.readWord s.sp, sp := s.sp + 2 } := rfl

/-- An instruction step: the illegal-instruction traps, or one meaning and the buffers after it. -/
theorem State.runInstruction_cases (s t : State) (h : s.runInstruction = .next t) :
    (s.fetched = .illegal2 ∧ t = s.illegal2Trap s.pc) ∨
    (∃ y d, s.fetched = .illegal3 y d ∧ t = s.illegal3Trap s.pc) ∨
    (∃ i len u, s.fetched = .instr i len ∧ exec i (s.setPc (s.pc + BitVec.ofNat 16 len)) = .next u ∧
      t = s.settle u i (s.pc + BitVec.ofNat 16 len)) := by
  unfold State.runInstruction at h
  cases hf : s.fetched with
  | illegal2 =>
    rw [hf] at h
    exact .inl ⟨rfl, (Host.Outcome.next.inj h).symm⟩
  | illegal3 y d =>
    rw [hf] at h
    exact .inr (.inl ⟨y, d, rfl, (Host.Outcome.next.inj h).symm⟩)
  | instr i len =>
    rw [hf] at h
    simp only at h
    cases he : exec i (s.setPc (s.pc + BitVec.ofNat 16 len)) with
    | next u =>
      rw [he] at h
      exact .inr (.inr ⟨i, len, u, rfl, he, (Host.Outcome.next.inj h).symm⟩)
    | fault r =>
      rw [he] at h
      cases h
    | refused r =>
      rw [he] at h
      cases h

/-- Items 5 to 8 of R18 end in one of four ways. -/
theorem State.proceed_cases (s t : State) (h : s.proceed = .next t) :
    (s.runState ≠ .run ∧ t = s) ∨
    (s.isMpu = true ∧ s.wpPending = true ∧ t = s.writeProtectTrap) ∨
    (s.execInh (s.translate s.pc) = true ∧ t = s.execInhibitTrap) ∨
    (s.runState = .run ∧ s.staleBuffer = false ∧ s.staleRepeat = false ∧ s.execInh (s.translate s.pc) = false ∧
      s.runInstruction = .next t) := by
  unfold State.proceed at h
  split at h
  · next hr => exact .inl ⟨hr, (Host.Outcome.next.inj h).symm⟩
  · next hr =>
    split at h
    · next hw =>
      simp only [Bool.and_eq_true] at hw
      exact .inr (.inl ⟨hw.1, hw.2, (Host.Outcome.next.inj h).symm⟩)
    · split at h
      · cases h
      · next hb =>
        split at h
        · cases h
        · next hp =>
          split at h
          · next hx => exact .inr (.inr (.inl ⟨hx, (Host.Outcome.next.inj h).symm⟩))
          · next hx =>
            exact .inr (.inr (.inr ⟨not_not.mp hr, by simpa using hb, by simpa using hp, by simpa using hx, h⟩))

/-- A boundary that is sampled ends in one of four ways (items 3 and 4 of R18). -/
theorem State.sampled_cases (s t : State) (d : Option DmaRequest) (h : s.sampled d = .next t) :
    (∃ m g, s.granted d = some (m, g) ∧ t = s.dmaStep m g) ∨
    (s.granted d = none ∧ s.endGrant.nmiPending = true ∧ t = s.endGrant.nmiAck) ∨
    (s.granted d = none ∧ s.endGrant.nmiPending = false ∧ s.endGrant.intReq = true ∧ s.endGrant.iff1 = true ∧
      t = s.endGrant.intAck) ∨
    (s.granted d = none ∧ s.endGrant.nmiPending = false ∧ s.endGrant.sleepSample.proceed = .next t) := by
  unfold State.sampled at h
  split at h
  · next m g hg => exact .inl ⟨m, g, hg, (Host.Outcome.next.inj h).symm⟩
  · next hg =>
    simp only at h
    split at h
    · next hn => exact .inr (.inl ⟨hg, hn, (Host.Outcome.next.inj h).symm⟩)
    · next hn =>
      split at h
      · next hi =>
        simp only [Bool.and_eq_true] at hi
        exact .inr (.inr (.inl ⟨hg, by simpa using hn, hi.1, hi.2, (Host.Outcome.next.inj h).symm⟩))
      · exact .inr (.inr (.inr ⟨hg, by simpa using hn, h⟩))

/-- A step is the user reset, a held-off boundary, or a sampled one, of the state after the events (R18). -/
theorem step_cases (s t : State) (h : step s = .next t) :
    (s.afterEvents.resetReq = true ∧ t = s.afterEvents.userReset) ∨
    (s.afterEvents.resetReq = false ∧ s.afterEvents.upset = false ∧ s.afterEvents.isMpu = true ∧
      s.afterEvents.noSample = true ∧ { s.afterEvents with noSample := false }.proceed = .next t) ∨
    (s.afterEvents.resetReq = false ∧ s.afterEvents.upset = false ∧
      (s.afterEvents.isMpu && s.afterEvents.noSample) = false ∧ s.afterEvents.sampled s.tick.dma = .next t) := by
  unfold step State.oneStep State.boundary at h
  split at h
  · next hr => exact .inl ⟨hr, (Host.Outcome.next.inj h).symm⟩
  · next hr =>
    split at h
    · cases h
    · next hu =>
      split at h
      · next hn =>
        simp only [Bool.and_eq_true] at hn
        exact .inr (.inl ⟨by simpa using hr, by simpa using hu, hn.1, hn.2, h⟩)
      · next hn => exact .inr (.inr ⟨by simpa using hr, by simpa using hu, by simpa using hn, h⟩)

/-- Where no grant and no turn of the core ends, the end of a grant changes nothing. -/
theorem State.endGrant_eq (s : State) (hd : s.dma.dus = 0) (hc : s.dma.coreTurn = false) : s.endGrant = s := by
  unfold State.endGrant
  rw [if_neg (by simp [hd]), ← hc]

/-- A step with an empty script and no reset, hold-off or request pending, in the RUN state, goes straight on to items 6 to 8. -/
theorem step_quiet (s : State) (hs : s.script = []) (hr : s.resetReq = false) (hu : s.upset = false)
    (hn : s.noSample = false) (hd : s.dma.dus = 0) (hc : s.dma.coreTurn = false) (hm : s.nmiPending = false) (hi : (s.intReq && s.iff1) = false)
    (hrun : s.runState = .run) : step s = s.proceed := by
  have ha : s.afterEvents = s := by
    simp [State.afterEvents, State.tick, State.absorbAll, hs]
    rw [← hs]
  have hg : s.granted none = none := by simp [State.granted]
  have he : s.endGrant = s := s.endGrant_eq hd hc
  have ht : s.tick.dma = none := by simp [State.tick, hs]
  unfold step State.oneStep State.boundary
  rw [ha, ht]
  simp only [hr, hu, hn, Bool.and_false, Bool.false_eq_true, if_false]
  unfold State.sampled
  rw [hg]
  simp only [he, hm, hi, Bool.false_eq_true, if_false]
  simp [State.sleepSample, hrun]

end Sys2Proof.Machine
end

