-- ==== Sys2Proof/Laws/Writes.lean ====
section
/-! SUPPORT. What a list of byte writes does, in the terms of Safety: one lemma for a single write, a word, a push and the sixteen writes
of a block. -/

namespace Sys2Proof.Machine

open Sys2Proof

/-- Byte writes one after another. -/
def State.storeAll (s : State) (stack : Bool) (ws : List (Word × Byte)) : State :=
  ws.foldl (fun t w => t.writeByte stack w.1 w.2) s

theorem State.storeAll_snoc (s : State) (stack : Bool) (ws : List (Word × Byte)) (w : Word × Byte) :
    s.storeAll stack (ws ++ [w]) = (s.storeAll stack ws).writeByte stack w.1 w.2 := by
  simp [State.storeAll]

theorem State.onlyStores_refl (s : State) : s.onlyStores s := rfl

theorem State.onlyStores_trans {s t u : State} (h : s.onlyStores t) (k : t.onlyStores u) : s.onlyStores u := by
  unfold State.onlyStores at *
  rw [k, h]

theorem State.writeByte_onlyStores (s : State) (stack : Bool) (la : Word) (v : Byte) :
    s.onlyStores (s.writeByte stack la v) := State.writeByte_frame s stack la v

theorem State.storeAll_onlyStores (s : State) (stack : Bool) (ws : List (Word × Byte)) :
    s.onlyStores (s.storeAll stack ws) := by
  induction ws using List.reverseRecOn with
  | nil => exact s.onlyStores_refl
  | append_singleton ws w ih =>
    rw [State.storeAll_snoc]
    exact State.onlyStores_trans ih (State.writeByte_onlyStores _ _ _ _)

theorem State.onlyStores_translate {s t : State} (h : s.onlyStores t) (la : Word) : t.translate la = s.translate la :=
  State.translate_congr _ _ _ (by rw [h]) (by rw [h])

theorem State.onlyStores_inhibited {s t : State} (h : s.onlyStores t) (la : Word) : t.inhibited la = s.inhibited la := by
  unfold State.inhibited
  rw [State.onlyStores_translate h]
  exact State.wrInh_congr _ _ _ (by rw [h]) (by rw [h])

/-- One write, in the terms of Safety. -/
theorem State.writeByte_read (s : State) (stack : Bool) (la : Word) (v : Byte) (a : Nat) :
    (s.writeByte stack la v).mem.read a =
      if a = s.phys la then (if s.inhibited la then s.mem.read a else v) else s.mem.read a := by
  rw [State.writeByte_mem]
  unfold State.inhibited State.phys
  split
  · simp
  · rw [Memory.read_store]

theorem State.writeByte_sys_of_stored (s : State) (stack : Bool) (la : Word) (v : Byte) (h : s.inhibited la = false) :
    (s.writeByte stack la v).sys = s.sys ∧ (s.writeByte stack la v).wpPending = s.wpPending ∧
      (s.writeByte stack la v).fatalDetect = s.fatalDetect ∧ (s.writeByte stack la v).resetReq = s.resetReq := by
  rcases s.writeByte_cases stack la v with ⟨_, e⟩ | ⟨k, _⟩
  · rw [e]
    exact ⟨rfl, rfl, rfl, rfl⟩
  · exact absurd k (by simpa [State.inhibited] using h)

theorem State.writeByte_sys_of_inhibited (s : State) (stack : Bool) (la : Word) (v : Byte) (h : s.inhibited la = true) :
    (s.writeByte stack la v).sys = { s.sys with
        trapWp := true
        trapLa := la
        trapPa := (s.translate la).extractLsb' 12 16
        rstFatal := s.sys.rstFatal || stack } ∧
      (s.writeByte stack la v).wpPending = true ∧
      (s.writeByte stack la v).fatalDetect = (s.fatalDetect || stack) ∧
      (s.writeByte stack la v).resetReq = (s.resetReq || stack) := by
  rcases s.writeByte_cases stack la v with ⟨k, _⟩ | ⟨_, e⟩
  · exact absurd h (by simpa [State.inhibited] using k)
  · rw [e]
    cases stack
    · simp [State.inhibitWrite, physPage]
    · simp [State.inhibitWrite, State.fatalError, physPage]

theorem State.storeAll_stored (s : State) (stack : Bool) (ws : List (Word × Byte))
    (hd : ws.Pairwise (fun x y => s.phys x.1 ≠ s.phys y.1)) : s.stored (s.storeAll stack ws) ws := by
  induction ws using List.reverseRecOn with
  | nil => exact ⟨by simp, fun _ _ => rfl⟩
  | append_singleton ws w ih =>
    rw [List.pairwise_append] at hd
    obtain ⟨h1, h2⟩ := ih hd.1
    have ho := s.storeAll_onlyStores stack ws
    have hp : (s.storeAll stack ws).phys w.1 = s.phys w.1 := by
      unfold State.phys
      rw [State.onlyStores_translate ho]
    rw [State.storeAll_snoc]
    constructor
    · intro x hx
      rw [State.writeByte_read, hp, State.onlyStores_inhibited ho]
      rcases List.mem_append.mp hx with hx | hx
      · rw [if_neg (hd.2.2 x hx w (by simp))]
        exact h1 x hx
      · rw [List.mem_singleton.mp hx, if_pos rfl]
        split
        · exact h2 _ (fun y hy => (hd.2.2 y hy w (by simp)).symm)
        · rfl
    · intro a ha
      rw [State.writeByte_read, hp, if_neg (ha w (by simp))]
      exact h2 a (fun x hx => ha x (by simp [hx]))

theorem State.storeAll_protection (s : State) (stack : Bool) (ws : List (Word × Byte)) :
    s.protection (s.storeAll stack ws) stack ws := by
  induction ws using List.reverseRecOn with
  | nil => exact ⟨rfl, rfl, rfl, rfl⟩
  | append_singleton ws w ih =>
    have ho := s.storeAll_onlyStores stack ws
    rw [State.storeAll_snoc]
    unfold State.protection at *
    rw [List.filter_append]
    cases hw : s.inhibited w.1 with
    | false =>
      obtain ⟨e1, e2, e3, e4⟩ := (s.storeAll stack ws).writeByte_sys_of_stored stack w.1 w.2
        (by rw [State.onlyStores_inhibited ho, hw])
      simpa [hw, e1, e2, e3, e4] using ih
    | true =>
      obtain ⟨e1, e2, e3, e4⟩ := (s.storeAll stack ws).writeByte_sys_of_inhibited stack w.1 w.2
        (by rw [State.onlyStores_inhibited ho, hw])
      have hl : (List.filter (fun x => s.inhibited x.1) ws ++ List.filter (fun x => s.inhibited x.1) [w]).getLast? = some w := by
        simp [hw]
      rw [hl]
      simp only [e1, e2, e3, e4, State.onlyStores_translate ho]
      split at ih
      · obtain ⟨i1, _, i3, i4⟩ := ih
        rw [i1, i3, i4]
        simp
      · obtain ⟨i1, _, i3, i4⟩ := ih
        rw [i1, i3, i4]
        simp

/-- Writes at distinct physical addresses do what Safety says a list of writes does. -/
theorem State.storeAll_writes (s : State) (stack : Bool) (ws : List (Word × Byte))
    (hd : ws.Pairwise (fun x y => s.phys x.1 ≠ s.phys y.1)) : s.writes (s.storeAll stack ws) stack ws :=
  ⟨s.storeAll_stored stack ws hd, s.storeAll_protection stack ws⟩

/-- Logical addresses that differ within a page have different physical addresses (R95). -/
theorem State.phys_ne (s : State) (la lb : Word) (h : la.toNat % 4096 ≠ lb.toNat % 4096) : s.phys la ≠ s.phys lb := by
  have key : ∀ x : Word, s.phys x % 4096 = x.toNat % 4096 := by
    intro x
    unfold State.phys State.translate
    split
    · simp
    · rw [BitVec.toNat_append]
      simp only [BitVec.extractLsb'_toNat]
      rw [Nat.shiftLeft_eq, Nat.mul_comm, ← Nat.two_pow_add_eq_or_of_lt (by simp; omega)]
      simp
  intro e
  exact h (by rw [← key, ← key, e])

/-- Logical addresses less than a page apart have different physical addresses. -/
theorem State.phys_add_ne (s : State) (la : Word) (j k : Nat) (hj : j < 4096) (hk : k < 4096) (h : j ≠ k) :
    s.phys (la + BitVec.ofNat 16 j) ≠ s.phys (la + BitVec.ofNat 16 k) := by
  apply State.phys_ne
  simp only [BitVec.toNat_add, BitVec.toNat_ofNat]
  omega

/-- A single write. -/
theorem State.writeByte_writes (s : State) (stack : Bool) (la : Word) (v : Byte) :
    s.writes (s.writeByte stack la v) stack [(la, v)] := s.storeAll_writes stack [(la, v)] (by simp)

/-- A word write (R86). -/
theorem State.writeWord_writes (s : State) (stack : Bool) (la w : Word) :
    s.writes (s.writeWord stack la w) stack [(la, low w), (la + 1, high w)] := by
  refine s.storeAll_writes stack [(la, low w), (la + 1, high w)] ?_
  have := s.phys_add_ne la 0 1 (by omega) (by omega) (by omega)
  simpa using this

theorem State.writeWord_onlyStores (s : State) (stack : Bool) (la w : Word) : s.onlyStores (s.writeWord stack la w) :=
  s.storeAll_onlyStores stack [(la, low w), (la + 1, high w)]

/-- `writes` looks at the memory and the latches of its end state only. -/
theorem State.writes_congr {s t u : State} {stack : Bool} {ws : List (Word × Byte)} (h : s.writes t stack ws)
    (hm : u.mem = t.mem) (hs : u.sys = t.sys) (hw : u.wpPending = t.wpPending) (hf : u.fatalDetect = t.fatalDetect)
    (hr : u.resetReq = t.resetReq) : s.writes u stack ws := by
  unfold State.writes State.stored State.protection at *
  rw [hm, hs, hw, hf, hr]
  exact h

/-- `writes` looks at the translation, protection, memory and latches of its start state only. -/
theorem State.writes_from {s t u : State} {stack : Bool} {ws : List (Word × Byte)} (h : u.writes t stack ws)
    (hp : u.params = s.params) (hi : u.pins = s.pins) (hu : u.mmu = s.mmu) (hm : u.mem = s.mem) (hs : u.sys = s.sys)
    (hw : u.wpPending = s.wpPending) (hf : u.fatalDetect = s.fatalDetect) (hr : u.resetReq = s.resetReq) :
    s.writes t stack ws := by
  have e1 : ∀ la, u.translate la = s.translate la := fun la => State.translate_congr s u la hp hu
  have e2 : ∀ la, u.inhibited la = s.inhibited la := by
    intro la
    unfold State.inhibited
    rw [e1]
    exact State.wrInh_congr s u _ hp hi
  unfold State.writes State.stored State.protection State.phys at *
  simp only [e1, e2, hm, hs, hw, hf, hr] at h
  exact h

/-- A push (R170). -/
theorem State.push16_writes (s : State) (v : Word) : s.writes (s.push16 v) true (s.pushed v) := by
  have h := s.storeAll_writes true (s.pushed v) (by
    have := s.phys_add_ne (s.sp - 2) 1 0 (by omega) (by omega) (by omega)
    have e : s.sp - 2 + BitVec.ofNat 16 1 = s.sp - 1 := by bv_omega
    rw [e] at this
    simpa [State.pushed] using this)
  exact State.writes_congr h rfl rfl rfl rfl rfl

end Sys2Proof.Machine
end

