-- ==== Sys2Proof/Laws/Boundary.lean ====
section
/-! SUPPORT. The step under the conditions Safety names, and what a transfer with a return address stores. -/

namespace Sys2Proof.Machine

open Sys2Proof

/-- The step of an undisturbed core: interrupts, then items 5 to 8 of R18. -/
theorem step_undisturbed (s : State) (h : s.Undisturbed) (hn : s.noSample = false) :
    step s = if s.nmiPending then .next s.nmiAck else if s.intReq && s.iff1 then .next s.intAck else s.sleepSample.proceed := by
  obtain ⟨hs, hr, hu, hd, hc⟩ := h
  have ha : s.afterEvents = s := by
    simp [State.afterEvents, State.tick, State.absorbAll, hs]
    rw [← hs]
  have hg : s.granted none = none := by simp [State.granted]
  have he : s.endGrant = s := s.endGrant_eq hd hc
  have ht : s.tick.dma = none := by simp [State.tick, hs]
  unfold step State.oneStep State.boundary
  rw [ha, ht]
  simp only [hr, hu, hn, Bool.and_false, Bool.false_eq_true, if_false]
  unfold State.sampled
  rw [hg]
  simp only [he]

/-- The step of a sequential core. -/
theorem step_sequential (s : State) (h : s.Sequential) : step s = s.proceed :=
  step_quiet s h.undisturbed.script h.undisturbed.resetReq h.undisturbed.upset h.noSample h.undisturbed.dus h.undisturbed.coreTurn h.nmi h.int h.running

/-- Where nothing stands in the way of the fetch, items 5 to 8 of R18 are item 8. -/
theorem State.proceed_mayFetch (s : State) (hr : s.runState = .run) (h : s.MayFetch) : s.proceed = s.runInstruction := by
  unfold State.proceed
  simp only [hr, h.wpPending, h.buffer, h.repeats, h.execInh, ne_eq, not_true_eq_false, if_false, Bool.and_false,
    Bool.false_eq_true]

/-- The fetch takes the four bytes from PC on. -/
theorem State.fetched_eq (s : State) :
    s.fetched = decode s.params.variant (s.readByte s.pc) (s.readByte (s.pc + 1)) (s.readByte (s.pc + 2))
      (s.readByte (s.pc + 3)) := by
  simp [State.fetched, State.codeByte]

theorem State.enter_writes (s : State) (stacked target : Word) :
    s.writes (s.enter stacked target) true (s.pushed stacked) :=
  State.writes_congr (s.push16_writes stacked) rfl rfl rfl rfl rfl

theorem State.enter_onlyStores (s : State) (stacked target : Word) :
    ({ s with sp := s.sp - 2, pc := target } : State).onlyStores (s.enter stacked target) := by
  unfold State.onlyStores
  rw [State.enter_frame]

theorem State.trapEntry_writes (s : State) (stacked : Word) : s.writes (s.trapEntry stacked) true (s.pushed stacked) :=
  State.writes_congr (s.push16_writes stacked) rfl rfl rfl rfl rfl

theorem State.trapEntry_onlyStores (s : State) (stacked : Word) :
    ({ s with sp := s.sp - 2, pc := 0, prefetched := none, repeating := none } : State).onlyStores (s.trapEntry stacked) := by
  unfold State.onlyStores State.trapEntry
  rw [State.enter_frame]
  rfl

end Sys2Proof.Machine
end

