-- ==== Sys2Proof/Laws/Limiter.lean ====
section
/-! SUPPORT. What the DMA limiter can do: it counts, or it ends the grant (R571). -/

namespace Sys2Proof.Machine

open Sys2Proof

/-- Where the limiter counts towards its limit, no grant lasts longer than that. -/
theorem State.grantClocks_le (s : State) (n : Nat) : s.grantClocks n ≤ n := by
  unfold State.grantClocks
  split
  · exact Nat.min_le_left _ _
  · exact Nat.le_refl _

/-- Below the limit, or without one, every clock of a grant counts. -/
theorem State.grantClocks_below {s : State} {n : Nat}
    (h : s.pins.drqActLim = 0 ∨ s.dma.active + n < 16 * s.pins.drqActLim.toNat) : s.grantClocks n = n := by
  unfold State.grantClocks
  split
  next hc =>
    have := h.resolve_left hc.2
    omega
  · rfl

/-- A grant below the limit, or without one, goes on. -/
theorem State.limitGrant_below {s : State} (h : s.pins.drqActLim = 0 ∨ s.dma.active < 16 * s.pins.drqActLim.toNat) :
    s.limitGrant = s := by
  refine if_neg ?_
  rintro ⟨h0, h1⟩
  rcases h with h | h
  · exact h0 h
  · omega

/-- At the limit the grant ends: no DUS bit, the idle minimum, the core's own boundary, and the time-out counted (R571; log 39). -/
theorem State.limitGrant_reached {s : State} (h0 : s.pins.drqActLim ≠ 0) (h : 16 * s.pins.drqActLim.toNat ≤ s.dma.active) :
    s.limitGrant = { s with
      dma := { dus := 0, active := 0, idle := 16 * s.pins.drqIdlLim.toNat, coreTurn := true }
      sys := { s.sys with drqTo := countTimeout s.params.dreqMode s.sys.drqTo } }.emit .drqTimeout :=
  if_pos ⟨h0, h⟩

/-- `t` is `s` but for the DMA controller, DRQ_TO and the trace. -/
def State.OnlyLimiter (s t : State) : Prop :=
  t = { s with dma := t.dma, sys := { s.sys with drqTo := t.sys.drqTo }, trace := t.trace }

theorem State.limitGrant_onlyLimiter (s : State) : s.OnlyLimiter s.limitGrant := by
  unfold State.limitGrant
  split <;> rfl

/-- The limiter changes nothing but its controller, DRQ_TO and the pulse it shows. -/
theorem State.limiterTime_onlyLimiter (s : State) (n : Nat) : s.OnlyLimiter (s.limiterTime n) := by
  unfold State.limiterTime
  dsimp only
  split
  · rfl
  · unfold State.limitGrant
    split <;> rfl

/-- Clocks without a grant only bring the idle minimum to its end. -/
theorem State.limiterTime_idle {s : State} (h : s.dma.dus = 0) (n : Nat) :
    s.limiterTime n = { s with dma := { s.dma with idle := s.dma.idle - n } } :=
  if_pos h

/-- The clocks of a grant that stays below the limit, or has none, add to its active time. -/
theorem State.limiterTime_active {s : State} (hd : s.dma.dus ≠ 0) {n : Nat}
    (h : s.pins.drqActLim = 0 ∨ s.dma.active + n < 16 * s.pins.drqActLim.toNat) :
    s.limiterTime n = { s with dma := { s.dma with active := s.dma.active + n } } := by
  have hl : { s with dma := { s.dma with active := s.dma.active + n } }.limitGrant =
      { s with dma := { s.dma with active := s.dma.active + n } } := State.limitGrant_below h
  simp only [State.limiterTime, if_neg hd, State.grantClocks_below h, hl, Nat.sub_self, Nat.sub_zero]

end Sys2Proof.Machine
end

