-- ==== Sys2Proof/Laws/PerInstr.lean ====
section
/-! SUPPORT. Statements made for each instruction. `EncodeLength`: an instruction is one to four bytes (R120). -/

namespace Sys2Proof.Laws

open Sys2Proof

/-- The encoding of `i` has one to four bytes (R120). -/
def EncodeLength.Statement (i : Instr) : Prop := 1 ≤ (encode i).length ∧ (encode i).length ≤ 4

theorem EncodeLength.addAR (r : Reg8) : EncodeLength.Statement (.addAR r) :=
  ⟨Nat.le_of_ble_eq_true rfl, Nat.le_of_ble_eq_true rfl⟩
theorem EncodeLength.addAN (n : Byte) : EncodeLength.Statement (.addAN n) :=
  ⟨Nat.le_of_ble_eq_true rfl, Nat.le_of_ble_eq_true rfl⟩
theorem EncodeLength.addAHl : EncodeLength.Statement .addAHl :=
  ⟨Nat.le_of_ble_eq_true rfl, Nat.le_of_ble_eq_true rfl⟩
theorem EncodeLength.addAXd (y : Idx) (d : Byte) : EncodeLength.Statement (.addAXd y d) :=
  ⟨Nat.le_of_ble_eq_true rfl, Nat.le_of_ble_eq_true rfl⟩
theorem EncodeLength.adcAR (r : Reg8) : EncodeLength.Statement (.adcAR r) :=
  ⟨Nat.le_of_ble_eq_true rfl, Nat.le_of_ble_eq_true rfl⟩
theorem EncodeLength.adcAN (n : Byte) : EncodeLength.Statement (.adcAN n) :=
  ⟨Nat.le_of_ble_eq_true rfl, Nat.le_of_ble_eq_true rfl⟩
theorem EncodeLength.adcAHl : EncodeLength.Statement .adcAHl :=
  ⟨Nat.le_of_ble_eq_true rfl, Nat.le_of_ble_eq_true rfl⟩
theorem EncodeLength.adcAXd (y : Idx) (d : Byte) : EncodeLength.Statement (.adcAXd y d) :=
  ⟨Nat.le_of_ble_eq_true rfl, Nat.le_of_ble_eq_true rfl⟩
theorem EncodeLength.subAR (r : Reg8) : EncodeLength.Statement (.subAR r) :=
  ⟨Nat.le_of_ble_eq_true rfl, Nat.le_of_ble_eq_true rfl⟩
theorem EncodeLength.subAN (n : Byte) : EncodeLength.Statement (.subAN n) :=
  ⟨Nat.le_of_ble_eq_true rfl, Nat.le_of_ble_eq_true rfl⟩
theorem EncodeLength.subAHl : EncodeLength.Statement .subAHl :=
  ⟨Nat.le_of_ble_eq_true rfl, Nat.le_of_ble_eq_true rfl⟩
theorem EncodeLength.subAXd (y : Idx) (d : Byte) : EncodeLength.Statement (.subAXd y d) :=
  ⟨Nat.le_of_ble_eq_true rfl, Nat.le_of_ble_eq_true rfl⟩
theorem EncodeLength.sbcAR (r : Reg8) : EncodeLength.Statement (.sbcAR r) :=
  ⟨Nat.le_of_ble_eq_true rfl, Nat.le_of_ble_eq_true rfl⟩
theorem EncodeLength.sbcAN (n : Byte) : EncodeLength.Statement (.sbcAN n) :=
  ⟨Nat.le_of_ble_eq_true rfl, Nat.le_of_ble_eq_true rfl⟩
theorem EncodeLength.sbcAHl : EncodeLength.Statement .sbcAHl :=
  ⟨Nat.le_of_ble_eq_true rfl, Nat.le_of_ble_eq_true rfl⟩
theorem EncodeLength.sbcAXd (y : Idx) (d : Byte) : EncodeLength.Statement (.sbcAXd y d) :=
  ⟨Nat.le_of_ble_eq_true rfl, Nat.le_of_ble_eq_true rfl⟩
theorem EncodeLength.andAR (r : Reg8) : EncodeLength.Statement (.andAR r) :=
  ⟨Nat.le_of_ble_eq_true rfl, Nat.le_of_ble_eq_true rfl⟩
theorem EncodeLength.andAN (n : Byte) : EncodeLength.Statement (.andAN n) :=
  ⟨Nat.le_of_ble_eq_true rfl, Nat.le_of_ble_eq_true rfl⟩
theorem EncodeLength.andAHl : EncodeLength.Statement .andAHl :=
  ⟨Nat.le_of_ble_eq_true rfl, Nat.le_of_ble_eq_true rfl⟩
theorem EncodeLength.andAXd (y : Idx) (d : Byte) : EncodeLength.Statement (.andAXd y d) :=
  ⟨Nat.le_of_ble_eq_true rfl, Nat.le_of_ble_eq_true rfl⟩
theorem EncodeLength.xorAR (r : Reg8) : EncodeLength.Statement (.xorAR r) :=
  ⟨Nat.le_of_ble_eq_true rfl, Nat.le_of_ble_eq_true rfl⟩
theorem EncodeLength.xorAN (n : Byte) : EncodeLength.Statement (.xorAN n) :=
  ⟨Nat.le_of_ble_eq_true rfl, Nat.le_of_ble_eq_true rfl⟩
theorem EncodeLength.xorAHl : EncodeLength.Statement .xorAHl :=
  ⟨Nat.le_of_ble_eq_true rfl, Nat.le_of_ble_eq_true rfl⟩
theorem EncodeLength.xorAXd (y : Idx) (d : Byte) : EncodeLength.Statement (.xorAXd y d) :=
  ⟨Nat.le_of_ble_eq_true rfl, Nat.le_of_ble_eq_true rfl⟩
theorem EncodeLength.orAR (r : Reg8) : EncodeLength.Statement (.orAR r) :=
  ⟨Nat.le_of_ble_eq_true rfl, Nat.le_of_ble_eq_true rfl⟩
theorem EncodeLength.orAN (n : Byte) : EncodeLength.Statement (.orAN n) :=
  ⟨Nat.le_of_ble_eq_true rfl, Nat.le_of_ble_eq_true rfl⟩
theorem EncodeLength.orAHl : EncodeLength.Statement .orAHl :=
  ⟨Nat.le_of_ble_eq_true rfl, Nat.le_of_ble_eq_true rfl⟩
theorem EncodeLength.orAXd (y : Idx) (d : Byte) : EncodeLength.Statement (.orAXd y d) :=
  ⟨Nat.le_of_ble_eq_true rfl, Nat.le_of_ble_eq_true rfl⟩
theorem EncodeLength.cpAR (r : Reg8) : EncodeLength.Statement (.cpAR r) :=
  ⟨Nat.le_of_ble_eq_true rfl, Nat.le_of_ble_eq_true rfl⟩
theorem EncodeLength.cpAN (n : Byte) : EncodeLength.Statement (.cpAN n) :=
  ⟨Nat.le_of_ble_eq_true rfl, Nat.le_of_ble_eq_true rfl⟩
theorem EncodeLength.cpAHl : EncodeLength.Statement .cpAHl :=
  ⟨Nat.le_of_ble_eq_true rfl, Nat.le_of_ble_eq_true rfl⟩
theorem EncodeLength.cpAXd (y : Idx) (d : Byte) : EncodeLength.Statement (.cpAXd y d) :=
  ⟨Nat.le_of_ble_eq_true rfl, Nat.le_of_ble_eq_true rfl⟩
theorem EncodeLength.ccf : EncodeLength.Statement .ccf :=
  ⟨Nat.le_of_ble_eq_true rfl, Nat.le_of_ble_eq_true rfl⟩
theorem EncodeLength.cpl : EncodeLength.Statement .cpl :=
  ⟨Nat.le_of_ble_eq_true rfl, Nat.le_of_ble_eq_true rfl⟩
theorem EncodeLength.daa : EncodeLength.Statement .daa :=
  ⟨Nat.le_of_ble_eq_true rfl, Nat.le_of_ble_eq_true rfl⟩
theorem EncodeLength.decR (r : Reg8) : EncodeLength.Statement (.decR r) :=
  ⟨Nat.le_of_ble_eq_true rfl, Nat.le_of_ble_eq_true rfl⟩
theorem EncodeLength.decHl : EncodeLength.Statement .decHl :=
  ⟨Nat.le_of_ble_eq_true rfl, Nat.le_of_ble_eq_true rfl⟩
theorem EncodeLength.decXd (y : Idx) (d : Byte) : EncodeLength.Statement (.decXd y d) :=
  ⟨Nat.le_of_ble_eq_true rfl, Nat.le_of_ble_eq_true rfl⟩
theorem EncodeLength.incR (r : Reg8) : EncodeLength.Statement (.incR r) :=
  ⟨Nat.le_of_ble_eq_true rfl, Nat.le_of_ble_eq_true rfl⟩
theorem EncodeLength.incHl : EncodeLength.Statement .incHl :=
  ⟨Nat.le_of_ble_eq_true rfl, Nat.le_of_ble_eq_true rfl⟩
theorem EncodeLength.incXd (y : Idx) (d : Byte) : EncodeLength.Statement (.incXd y d) :=
  ⟨Nat.le_of_ble_eq_true rfl, Nat.le_of_ble_eq_true rfl⟩
theorem EncodeLength.neg : EncodeLength.Statement .neg :=
  ⟨Nat.le_of_ble_eq_true rfl, Nat.le_of_ble_eq_true rfl⟩
theorem EncodeLength.scf : EncodeLength.Statement .scf :=
  ⟨Nat.le_of_ble_eq_true rfl, Nat.le_of_ble_eq_true rfl⟩
theorem EncodeLength.tstR (r : Reg8) : EncodeLength.Statement (.tstR r) :=
  ⟨Nat.le_of_ble_eq_true rfl, Nat.le_of_ble_eq_true rfl⟩
theorem EncodeLength.tstN (n : Byte) : EncodeLength.Statement (.tstN n) :=
  ⟨Nat.le_of_ble_eq_true rfl, Nat.le_of_ble_eq_true rfl⟩
theorem EncodeLength.tstHl : EncodeLength.Statement .tstHl :=
  ⟨Nat.le_of_ble_eq_true rfl, Nat.le_of_ble_eq_true rfl⟩
theorem EncodeLength.adcHlSs (ss : RegSs) : EncodeLength.Statement (.adcHlSs ss) :=
  ⟨Nat.le_of_ble_eq_true rfl, Nat.le_of_ble_eq_true rfl⟩
theorem EncodeLength.addHlSs (ss : RegSs) : EncodeLength.Statement (.addHlSs ss) :=
  ⟨Nat.le_of_ble_eq_true rfl, Nat.le_of_ble_eq_true rfl⟩
theorem EncodeLength.addIxXx (xx : RegXx) : EncodeLength.Statement (.addIxXx xx) :=
  ⟨Nat.le_of_ble_eq_true rfl, Nat.le_of_ble_eq_true rfl⟩
theorem EncodeLength.addIyYy (yy : RegYy) : EncodeLength.Statement (.addIyYy yy) :=
  ⟨Nat.le_of_ble_eq_true rfl, Nat.le_of_ble_eq_true rfl⟩
theorem EncodeLength.decDd (dd : RegSs) : EncodeLength.Statement (.decDd dd) :=
  ⟨Nat.le_of_ble_eq_true rfl, Nat.le_of_ble_eq_true rfl⟩
theorem EncodeLength.decXy (y : Idx) : EncodeLength.Statement (.decXy y) :=
  ⟨Nat.le_of_ble_eq_true rfl, Nat.le_of_ble_eq_true rfl⟩
theorem EncodeLength.incDd (dd : RegSs) : EncodeLength.Statement (.incDd dd) :=
  ⟨Nat.le_of_ble_eq_true rfl, Nat.le_of_ble_eq_true rfl⟩
theorem EncodeLength.incXy (y : Idx) : EncodeLength.Statement (.incXy y) :=
  ⟨Nat.le_of_ble_eq_true rfl, Nat.le_of_ble_eq_true rfl⟩
theorem EncodeLength.mltSs (ss : RegSs) : EncodeLength.Statement (.mltSs ss) :=
  ⟨Nat.le_of_ble_eq_true rfl, Nat.le_of_ble_eq_true rfl⟩
theorem EncodeLength.sbcHlSs (ss : RegSs) : EncodeLength.Statement (.sbcHlSs ss) :=
  ⟨Nat.le_of_ble_eq_true rfl, Nat.le_of_ble_eq_true rfl⟩
theorem EncodeLength.ldAMn (mn : Word) : EncodeLength.Statement (.ldAMn mn) :=
  ⟨Nat.le_of_ble_eq_true rfl, Nat.le_of_ble_eq_true rfl⟩
theorem EncodeLength.ldABc : EncodeLength.Statement .ldABc :=
  ⟨Nat.le_of_ble_eq_true rfl, Nat.le_of_ble_eq_true rfl⟩
theorem EncodeLength.ldADe : EncodeLength.Statement .ldADe :=
  ⟨Nat.le_of_ble_eq_true rfl, Nat.le_of_ble_eq_true rfl⟩
theorem EncodeLength.ldAI : EncodeLength.Statement .ldAI :=
  ⟨Nat.le_of_ble_eq_true rfl, Nat.le_of_ble_eq_true rfl⟩
theorem EncodeLength.ldAR : EncodeLength.Statement .ldAR :=
  ⟨Nat.le_of_ble_eq_true rfl, Nat.le_of_ble_eq_true rfl⟩
theorem EncodeLength.ldMnA (mn : Word) : EncodeLength.Statement (.ldMnA mn) :=
  ⟨Nat.le_of_ble_eq_true rfl, Nat.le_of_ble_eq_true rfl⟩
theorem EncodeLength.ldBcA : EncodeLength.Statement .ldBcA :=
  ⟨Nat.le_of_ble_eq_true rfl, Nat.le_of_ble_eq_true rfl⟩
theorem EncodeLength.ldDeA : EncodeLength.Statement .ldDeA :=
  ⟨Nat.le_of_ble_eq_true rfl, Nat.le_of_ble_eq_true rfl⟩
theorem EncodeLength.ldHlN (n : Byte) : EncodeLength.Statement (.ldHlN n) :=
  ⟨Nat.le_of_ble_eq_true rfl, Nat.le_of_ble_eq_true rfl⟩
theorem EncodeLength.ldXdN (y : Idx) (d : Byte) (n : Byte) : EncodeLength.Statement (.ldXdN y d n) :=
  ⟨Nat.le_of_ble_eq_true rfl, Nat.le_of_ble_eq_true rfl⟩
theorem EncodeLength.ldHlR (r : Reg8) : EncodeLength.Statement (.ldHlR r) :=
  ⟨Nat.le_of_ble_eq_true rfl, Nat.le_of_ble_eq_true rfl⟩
theorem EncodeLength.ldXdR (y : Idx) (d : Byte) (r : Reg8) : EncodeLength.Statement (.ldXdR y d r) :=
  ⟨Nat.le_of_ble_eq_true rfl, Nat.le_of_ble_eq_true rfl⟩
theorem EncodeLength.ldMnHl (mn : Word) : EncodeLength.Statement (.ldMnHl mn) :=
  ⟨Nat.le_of_ble_eq_true rfl, Nat.le_of_ble_eq_true rfl⟩
theorem EncodeLength.ldMnSs (mn : Word) (ss : RegSs) : EncodeLength.Statement (.ldMnSs mn ss) :=
  ⟨Nat.le_of_ble_eq_true rfl, Nat.le_of_ble_eq_true rfl⟩
theorem EncodeLength.ldMnXy (mn : Word) (y : Idx) : EncodeLength.Statement (.ldMnXy mn y) :=
  ⟨Nat.le_of_ble_eq_true rfl, Nat.le_of_ble_eq_true rfl⟩
theorem EncodeLength.ldRR (rd : Reg8) (rs : Reg8) : EncodeLength.Statement (.ldRR rd rs) :=
  ⟨Nat.le_of_ble_eq_true rfl, Nat.le_of_ble_eq_true rfl⟩
theorem EncodeLength.ldRN (r : Reg8) (n : Byte) : EncodeLength.Statement (.ldRN r n) :=
  ⟨Nat.le_of_ble_eq_true rfl, Nat.le_of_ble_eq_true rfl⟩
theorem EncodeLength.ldRHl (r : Reg8) : EncodeLength.Statement (.ldRHl r) :=
  ⟨Nat.le_of_ble_eq_true rfl, Nat.le_of_ble_eq_true rfl⟩
theorem EncodeLength.ldRXd (r : Reg8) (y : Idx) (d : Byte) : EncodeLength.Statement (.ldRXd r y d) :=
  ⟨Nat.le_of_ble_eq_true rfl, Nat.le_of_ble_eq_true rfl⟩
theorem EncodeLength.ldDdMn (dd : RegSs) (mn : Word) : EncodeLength.Statement (.ldDdMn dd mn) :=
  ⟨Nat.le_of_ble_eq_true rfl, Nat.le_of_ble_eq_true rfl⟩
theorem EncodeLength.ldXyMn (y : Idx) (mn : Word) : EncodeLength.Statement (.ldXyMn y mn) :=
  ⟨Nat.le_of_ble_eq_true rfl, Nat.le_of_ble_eq_true rfl⟩
theorem EncodeLength.ldHlFromMn (mn : Word) : EncodeLength.Statement (.ldHlFromMn mn) :=
  ⟨Nat.le_of_ble_eq_true rfl, Nat.le_of_ble_eq_true rfl⟩
theorem EncodeLength.ldDdFromMn (dd : RegSs) (mn : Word) : EncodeLength.Statement (.ldDdFromMn dd mn) :=
  ⟨Nat.le_of_ble_eq_true rfl, Nat.le_of_ble_eq_true rfl⟩
theorem EncodeLength.ldXyFromMn (y : Idx) (mn : Word) : EncodeLength.Statement (.ldXyFromMn y mn) :=
  ⟨Nat.le_of_ble_eq_true rfl, Nat.le_of_ble_eq_true rfl⟩
theorem EncodeLength.ldIA : EncodeLength.Statement .ldIA :=
  ⟨Nat.le_of_ble_eq_true rfl, Nat.le_of_ble_eq_true rfl⟩
theorem EncodeLength.ldRA : EncodeLength.Statement .ldRA :=
  ⟨Nat.le_of_ble_eq_true rfl, Nat.le_of_ble_eq_true rfl⟩
theorem EncodeLength.ldSpHl : EncodeLength.Statement .ldSpHl :=
  ⟨Nat.le_of_ble_eq_true rfl, Nat.le_of_ble_eq_true rfl⟩
theorem EncodeLength.ldSpXy (y : Idx) : EncodeLength.Statement (.ldSpXy y) :=
  ⟨Nat.le_of_ble_eq_true rfl, Nat.le_of_ble_eq_true rfl⟩
theorem EncodeLength.popTt (tt : RegTt) : EncodeLength.Statement (.popTt tt) :=
  ⟨Nat.le_of_ble_eq_true rfl, Nat.le_of_ble_eq_true rfl⟩
theorem EncodeLength.popXy (y : Idx) : EncodeLength.Statement (.popXy y) :=
  ⟨Nat.le_of_ble_eq_true rfl, Nat.le_of_ble_eq_true rfl⟩
theorem EncodeLength.pushTt (tt : RegTt) : EncodeLength.Statement (.pushTt tt) :=
  ⟨Nat.le_of_ble_eq_true rfl, Nat.le_of_ble_eq_true rfl⟩
theorem EncodeLength.pushXy (y : Idx) : EncodeLength.Statement (.pushXy y) :=
  ⟨Nat.le_of_ble_eq_true rfl, Nat.le_of_ble_eq_true rfl⟩
theorem EncodeLength.exSpHl : EncodeLength.Statement .exSpHl :=
  ⟨Nat.le_of_ble_eq_true rfl, Nat.le_of_ble_eq_true rfl⟩
theorem EncodeLength.exSpXy (y : Idx) : EncodeLength.Statement (.exSpXy y) :=
  ⟨Nat.le_of_ble_eq_true rfl, Nat.le_of_ble_eq_true rfl⟩
theorem EncodeLength.exAfAf : EncodeLength.Statement .exAfAf :=
  ⟨Nat.le_of_ble_eq_true rfl, Nat.le_of_ble_eq_true rfl⟩
theorem EncodeLength.exDeHl : EncodeLength.Statement .exDeHl :=
  ⟨Nat.le_of_ble_eq_true rfl, Nat.le_of_ble_eq_true rfl⟩
theorem EncodeLength.exx : EncodeLength.Statement .exx :=
  ⟨Nat.le_of_ble_eq_true rfl, Nat.le_of_ble_eq_true rfl⟩
theorem EncodeLength.bitR (b : BitVec 3) (r : Reg8) : EncodeLength.Statement (.bitR b r) :=
  ⟨Nat.le_of_ble_eq_true rfl, Nat.le_of_ble_eq_true rfl⟩
theorem EncodeLength.bitHl (b : BitVec 3) : EncodeLength.Statement (.bitHl b) :=
  ⟨Nat.le_of_ble_eq_true rfl, Nat.le_of_ble_eq_true rfl⟩
theorem EncodeLength.bitXd (b : BitVec 3) (y : Idx) (d : Byte) : EncodeLength.Statement (.bitXd b y d) :=
  ⟨Nat.le_of_ble_eq_true rfl, Nat.le_of_ble_eq_true rfl⟩
theorem EncodeLength.resR (b : BitVec 3) (r : Reg8) : EncodeLength.Statement (.resR b r) :=
  ⟨Nat.le_of_ble_eq_true rfl, Nat.le_of_ble_eq_true rfl⟩
theorem EncodeLength.resHl (b : BitVec 3) : EncodeLength.Statement (.resHl b) :=
  ⟨Nat.le_of_ble_eq_true rfl, Nat.le_of_ble_eq_true rfl⟩
theorem EncodeLength.resXd (b : BitVec 3) (y : Idx) (d : Byte) : EncodeLength.Statement (.resXd b y d) :=
  ⟨Nat.le_of_ble_eq_true rfl, Nat.le_of_ble_eq_true rfl⟩
theorem EncodeLength.rlR (r : Reg8) : EncodeLength.Statement (.rlR r) :=
  ⟨Nat.le_of_ble_eq_true rfl, Nat.le_of_ble_eq_true rfl⟩
theorem EncodeLength.rlHl : EncodeLength.Statement .rlHl :=
  ⟨Nat.le_of_ble_eq_true rfl, Nat.le_of_ble_eq_true rfl⟩
theorem EncodeLength.rlXd (y : Idx) (d : Byte) : EncodeLength.Statement (.rlXd y d) :=
  ⟨Nat.le_of_ble_eq_true rfl, Nat.le_of_ble_eq_true rfl⟩
theorem EncodeLength.rla : EncodeLength.Statement .rla :=
  ⟨Nat.le_of_ble_eq_true rfl, Nat.le_of_ble_eq_true rfl⟩
theorem EncodeLength.rlcR (r : Reg8) : EncodeLength.Statement (.rlcR r) :=
  ⟨Nat.le_of_ble_eq_true rfl, Nat.le_of_ble_eq_true rfl⟩
theorem EncodeLength.rlcHl : EncodeLength.Statement .rlcHl :=
  ⟨Nat.le_of_ble_eq_true rfl, Nat.le_of_ble_eq_true rfl⟩
theorem EncodeLength.rlcXd (y : Idx) (d : Byte) : EncodeLength.Statement (.rlcXd y d) :=
  ⟨Nat.le_of_ble_eq_true rfl, Nat.le_of_ble_eq_true rfl⟩
theorem EncodeLength.rlca : EncodeLength.Statement .rlca :=
  ⟨Nat.le_of_ble_eq_true rfl, Nat.le_of_ble_eq_true rfl⟩
theorem EncodeLength.rld : EncodeLength.Statement .rld :=
  ⟨Nat.le_of_ble_eq_true rfl, Nat.le_of_ble_eq_true rfl⟩
theorem EncodeLength.rrR (r : Reg8) : EncodeLength.Statement (.rrR r) :=
  ⟨Nat.le_of_ble_eq_true rfl, Nat.le_of_ble_eq_true rfl⟩
theorem EncodeLength.rrHl : EncodeLength.Statement .rrHl :=
  ⟨Nat.le_of_ble_eq_true rfl, Nat.le_of_ble_eq_true rfl⟩
theorem EncodeLength.rrXd (y : Idx) (d : Byte) : EncodeLength.Statement (.rrXd y d) :=
  ⟨Nat.le_of_ble_eq_true rfl, Nat.le_of_ble_eq_true rfl⟩
theorem EncodeLength.rra : EncodeLength.Statement .rra :=
  ⟨Nat.le_of_ble_eq_true rfl, Nat.le_of_ble_eq_true rfl⟩
theorem EncodeLength.rrcR (r : Reg8) : EncodeLength.Statement (.rrcR r) :=
  ⟨Nat.le_of_ble_eq_true rfl, Nat.le_of_ble_eq_true rfl⟩
theorem EncodeLength.rrcHl : EncodeLength.Statement .rrcHl :=
  ⟨Nat.le_of_ble_eq_true rfl, Nat.le_of_ble_eq_true rfl⟩
theorem EncodeLength.rrcXd (y : Idx) (d : Byte) : EncodeLength.Statement (.rrcXd y d) :=
  ⟨Nat.le_of_ble_eq_true rfl, Nat.le_of_ble_eq_true rfl⟩
theorem EncodeLength.rrca : EncodeLength.Statement .rrca :=
  ⟨Nat.le_of_ble_eq_true rfl, Nat.le_of_ble_eq_true rfl⟩
theorem EncodeLength.rrd : EncodeLength.Statement .rrd :=
  ⟨Nat.le_of_ble_eq_true rfl, Nat.le_of_ble_eq_true rfl⟩
theorem EncodeLength.setR (b : BitVec 3) (r : Reg8) : EncodeLength.Statement (.setR b r) :=
  ⟨Nat.le_of_ble_eq_true rfl, Nat.le_of_ble_eq_true rfl⟩
theorem EncodeLength.setHl (b : BitVec 3) : EncodeLength.Statement (.setHl b) :=
  ⟨Nat.le_of_ble_eq_true rfl, Nat.le_of_ble_eq_true rfl⟩
theorem EncodeLength.setXd (b : BitVec 3) (y : Idx) (d : Byte) : EncodeLength.Statement (.setXd b y d) :=
  ⟨Nat.le_of_ble_eq_true rfl, Nat.le_of_ble_eq_true rfl⟩
theorem EncodeLength.slaR (r : Reg8) : EncodeLength.Statement (.slaR r) :=
  ⟨Nat.le_of_ble_eq_true rfl, Nat.le_of_ble_eq_true rfl⟩
theorem EncodeLength.slaHl : EncodeLength.Statement .slaHl :=
  ⟨Nat.le_of_ble_eq_true rfl, Nat.le_of_ble_eq_true rfl⟩
theorem EncodeLength.slaXd (y : Idx) (d : Byte) : EncodeLength.Statement (.slaXd y d) :=
  ⟨Nat.le_of_ble_eq_true rfl, Nat.le_of_ble_eq_true rfl⟩
theorem EncodeLength.sraR (r : Reg8) : EncodeLength.Statement (.sraR r) :=
  ⟨Nat.le_of_ble_eq_true rfl, Nat.le_of_ble_eq_true rfl⟩
theorem EncodeLength.sraHl : EncodeLength.Statement .sraHl :=
  ⟨Nat.le_of_ble_eq_true rfl, Nat.le_of_ble_eq_true rfl⟩
theorem EncodeLength.sraXd (y : Idx) (d : Byte) : EncodeLength.Statement (.sraXd y d) :=
  ⟨Nat.le_of_ble_eq_true rfl, Nat.le_of_ble_eq_true rfl⟩
theorem EncodeLength.srlR (r : Reg8) : EncodeLength.Statement (.srlR r) :=
  ⟨Nat.le_of_ble_eq_true rfl, Nat.le_of_ble_eq_true rfl⟩
theorem EncodeLength.srlHl : EncodeLength.Statement .srlHl :=
  ⟨Nat.le_of_ble_eq_true rfl, Nat.le_of_ble_eq_true rfl⟩
theorem EncodeLength.srlXd (y : Idx) (d : Byte) : EncodeLength.Statement (.srlXd y d) :=
  ⟨Nat.le_of_ble_eq_true rfl, Nat.le_of_ble_eq_true rfl⟩
theorem EncodeLength.callMn (mn : Word) : EncodeLength.Statement (.callMn mn) :=
  ⟨Nat.le_of_ble_eq_true rfl, Nat.le_of_ble_eq_true rfl⟩
theorem EncodeLength.callCcMn (cc : Cond) (mn : Word) : EncodeLength.Statement (.callCcMn cc mn) :=
  ⟨Nat.le_of_ble_eq_true rfl, Nat.le_of_ble_eq_true rfl⟩
theorem EncodeLength.djnz (e2 : Byte) : EncodeLength.Statement (.djnz e2) :=
  ⟨Nat.le_of_ble_eq_true rfl, Nat.le_of_ble_eq_true rfl⟩
theorem EncodeLength.jpMn (mn : Word) : EncodeLength.Statement (.jpMn mn) :=
  ⟨Nat.le_of_ble_eq_true rfl, Nat.le_of_ble_eq_true rfl⟩
theorem EncodeLength.jpHl : EncodeLength.Statement .jpHl :=
  ⟨Nat.le_of_ble_eq_true rfl, Nat.le_of_ble_eq_true rfl⟩
theorem EncodeLength.jpXy (y : Idx) : EncodeLength.Statement (.jpXy y) :=
  ⟨Nat.le_of_ble_eq_true rfl, Nat.le_of_ble_eq_true rfl⟩
theorem EncodeLength.jpCcMn (cc : Cond) (mn : Word) : EncodeLength.Statement (.jpCcMn cc mn) :=
  ⟨Nat.le_of_ble_eq_true rfl, Nat.le_of_ble_eq_true rfl⟩
theorem EncodeLength.jr (e2 : Byte) : EncodeLength.Statement (.jr e2) :=
  ⟨Nat.le_of_ble_eq_true rfl, Nat.le_of_ble_eq_true rfl⟩
theorem EncodeLength.jrCc (cc : CondJr) (e2 : Byte) : EncodeLength.Statement (.jrCc cc e2) :=
  ⟨Nat.le_of_ble_eq_true rfl, Nat.le_of_ble_eq_true rfl⟩
theorem EncodeLength.ret : EncodeLength.Statement .ret :=
  ⟨Nat.le_of_ble_eq_true rfl, Nat.le_of_ble_eq_true rfl⟩
theorem EncodeLength.retCc (cc : Cond) : EncodeLength.Statement (.retCc cc) :=
  ⟨Nat.le_of_ble_eq_true rfl, Nat.le_of_ble_eq_true rfl⟩
theorem EncodeLength.reti : EncodeLength.Statement .reti :=
  ⟨Nat.le_of_ble_eq_true rfl, Nat.le_of_ble_eq_true rfl⟩
theorem EncodeLength.retn : EncodeLength.Statement .retn :=
  ⟨Nat.le_of_ble_eq_true rfl, Nat.le_of_ble_eq_true rfl⟩
theorem EncodeLength.rst (v : BitVec 3) : EncodeLength.Statement (.rst v) :=
  ⟨Nat.le_of_ble_eq_true rfl, Nat.le_of_ble_eq_true rfl⟩
theorem EncodeLength.cpd : EncodeLength.Statement .cpd :=
  ⟨Nat.le_of_ble_eq_true rfl, Nat.le_of_ble_eq_true rfl⟩
theorem EncodeLength.cpdr : EncodeLength.Statement .cpdr :=
  ⟨Nat.le_of_ble_eq_true rfl, Nat.le_of_ble_eq_true rfl⟩
theorem EncodeLength.cpi : EncodeLength.Statement .cpi :=
  ⟨Nat.le_of_ble_eq_true rfl, Nat.le_of_ble_eq_true rfl⟩
theorem EncodeLength.cpir : EncodeLength.Statement .cpir :=
  ⟨Nat.le_of_ble_eq_true rfl, Nat.le_of_ble_eq_true rfl⟩
theorem EncodeLength.ldd : EncodeLength.Statement .ldd :=
  ⟨Nat.le_of_ble_eq_true rfl, Nat.le_of_ble_eq_true rfl⟩
theorem EncodeLength.lddr : EncodeLength.Statement .lddr :=
  ⟨Nat.le_of_ble_eq_true rfl, Nat.le_of_ble_eq_true rfl⟩
theorem EncodeLength.ldi : EncodeLength.Statement .ldi :=
  ⟨Nat.le_of_ble_eq_true rfl, Nat.le_of_ble_eq_true rfl⟩
theorem EncodeLength.ldir : EncodeLength.Statement .ldir :=
  ⟨Nat.le_of_ble_eq_true rfl, Nat.le_of_ble_eq_true rfl⟩
theorem EncodeLength.inAN (n : Byte) : EncodeLength.Statement (.inAN n) :=
  ⟨Nat.le_of_ble_eq_true rfl, Nat.le_of_ble_eq_true rfl⟩
theorem EncodeLength.inRC (r : Reg8) : EncodeLength.Statement (.inRC r) :=
  ⟨Nat.le_of_ble_eq_true rfl, Nat.le_of_ble_eq_true rfl⟩
theorem EncodeLength.in0RN (r : Reg8) (n : Byte) : EncodeLength.Statement (.in0RN r n) :=
  ⟨Nat.le_of_ble_eq_true rfl, Nat.le_of_ble_eq_true rfl⟩
theorem EncodeLength.ind : EncodeLength.Statement .ind :=
  ⟨Nat.le_of_ble_eq_true rfl, Nat.le_of_ble_eq_true rfl⟩
theorem EncodeLength.indr : EncodeLength.Statement .indr :=
  ⟨Nat.le_of_ble_eq_true rfl, Nat.le_of_ble_eq_true rfl⟩
theorem EncodeLength.ini : EncodeLength.Statement .ini :=
  ⟨Nat.le_of_ble_eq_true rfl, Nat.le_of_ble_eq_true rfl⟩
theorem EncodeLength.inir : EncodeLength.Statement .inir :=
  ⟨Nat.le_of_ble_eq_true rfl, Nat.le_of_ble_eq_true rfl⟩
theorem EncodeLength.otdm : EncodeLength.Statement .otdm :=
  ⟨Nat.le_of_ble_eq_true rfl, Nat.le_of_ble_eq_true rfl⟩
theorem EncodeLength.otdmr : EncodeLength.Statement .otdmr :=
  ⟨Nat.le_of_ble_eq_true rfl, Nat.le_of_ble_eq_true rfl⟩
theorem EncodeLength.otdr : EncodeLength.Statement .otdr :=
  ⟨Nat.le_of_ble_eq_true rfl, Nat.le_of_ble_eq_true rfl⟩
theorem EncodeLength.otim : EncodeLength.Statement .otim :=
  ⟨Nat.le_of_ble_eq_true rfl, Nat.le_of_ble_eq_true rfl⟩
theorem EncodeLength.otimr : EncodeLength.Statement .otimr :=
  ⟨Nat.le_of_ble_eq_true rfl, Nat.le_of_ble_eq_true rfl⟩
theorem EncodeLength.otir : EncodeLength.Statement .otir :=
  ⟨Nat.le_of_ble_eq_true rfl, Nat.le_of_ble_eq_true rfl⟩
theorem EncodeLength.outNA (n : Byte) : EncodeLength.Statement (.outNA n) :=
  ⟨Nat.le_of_ble_eq_true rfl, Nat.le_of_ble_eq_true rfl⟩
theorem EncodeLength.outCR (r : Reg8) : EncodeLength.Statement (.outCR r) :=
  ⟨Nat.le_of_ble_eq_true rfl, Nat.le_of_ble_eq_true rfl⟩
theorem EncodeLength.out0NR (n : Byte) (r : Reg8) : EncodeLength.Statement (.out0NR n r) :=
  ⟨Nat.le_of_ble_eq_true rfl, Nat.le_of_ble_eq_true rfl⟩
theorem EncodeLength.outd : EncodeLength.Statement .outd :=
  ⟨Nat.le_of_ble_eq_true rfl, Nat.le_of_ble_eq_true rfl⟩
theorem EncodeLength.outi : EncodeLength.Statement .outi :=
  ⟨Nat.le_of_ble_eq_true rfl, Nat.le_of_ble_eq_true rfl⟩
theorem EncodeLength.tstioN (n : Byte) : EncodeLength.Statement (.tstioN n) :=
  ⟨Nat.le_of_ble_eq_true rfl, Nat.le_of_ble_eq_true rfl⟩
theorem EncodeLength.di : EncodeLength.Statement .di :=
  ⟨Nat.le_of_ble_eq_true rfl, Nat.le_of_ble_eq_true rfl⟩
theorem EncodeLength.ei : EncodeLength.Statement .ei :=
  ⟨Nat.le_of_ble_eq_true rfl, Nat.le_of_ble_eq_true rfl⟩
theorem EncodeLength.halt : EncodeLength.Statement .halt :=
  ⟨Nat.le_of_ble_eq_true rfl, Nat.le_of_ble_eq_true rfl⟩
theorem EncodeLength.im0 : EncodeLength.Statement .im0 :=
  ⟨Nat.le_of_ble_eq_true rfl, Nat.le_of_ble_eq_true rfl⟩
theorem EncodeLength.im1 : EncodeLength.Statement .im1 :=
  ⟨Nat.le_of_ble_eq_true rfl, Nat.le_of_ble_eq_true rfl⟩
theorem EncodeLength.im2 : EncodeLength.Statement .im2 :=
  ⟨Nat.le_of_ble_eq_true rfl, Nat.le_of_ble_eq_true rfl⟩
theorem EncodeLength.nop : EncodeLength.Statement .nop :=
  ⟨Nat.le_of_ble_eq_true rfl, Nat.le_of_ble_eq_true rfl⟩
theorem EncodeLength.slp : EncodeLength.Statement .slp :=
  ⟨Nat.le_of_ble_eq_true rfl, Nat.le_of_ble_eq_true rfl⟩
theorem EncodeLength.ldmHlMmu : EncodeLength.Statement .ldmHlMmu :=
  ⟨Nat.le_of_ble_eq_true rfl, Nat.le_of_ble_eq_true rfl⟩
theorem EncodeLength.ldmHlMmuh : EncodeLength.Statement .ldmHlMmuh :=
  ⟨Nat.le_of_ble_eq_true rfl, Nat.le_of_ble_eq_true rfl⟩
theorem EncodeLength.ldmMmuHl : EncodeLength.Statement .ldmMmuHl :=
  ⟨Nat.le_of_ble_eq_true rfl, Nat.le_of_ble_eq_true rfl⟩
theorem EncodeLength.ldmMmuhHl : EncodeLength.Statement .ldmMmuhHl :=
  ⟨Nat.le_of_ble_eq_true rfl, Nat.le_of_ble_eq_true rfl⟩
theorem EncodeLength.ldmsMmuHl : EncodeLength.Statement .ldmsMmuHl :=
  ⟨Nat.le_of_ble_eq_true rfl, Nat.le_of_ble_eq_true rfl⟩
theorem EncodeLength.swap : EncodeLength.Statement .swap :=
  ⟨Nat.le_of_ble_eq_true rfl, Nat.le_of_ble_eq_true rfl⟩
theorem EncodeLength.wdarm : EncodeLength.Statement .wdarm :=
  ⟨Nat.le_of_ble_eq_true rfl, Nat.le_of_ble_eq_true rfl⟩
theorem EncodeLength.wdres : EncodeLength.Statement .wdres :=
  ⟨Nat.le_of_ble_eq_true rfl, Nat.le_of_ble_eq_true rfl⟩
theorem EncodeLength.ldmHlSys : EncodeLength.Statement .ldmHlSys :=
  ⟨Nat.le_of_ble_eq_true rfl, Nat.le_of_ble_eq_true rfl⟩

end Sys2Proof.Laws
end

