-- ==== Sys2Proof/Laws/ResetBus.lean ====
section
/-! SUPPORT. What the digital filters of `reset_bus` can do (R591). -/

namespace Sys2Proof.Machine

open Sys2Proof

variable (f : LevelFilter) (pin : Bool) (n : Nat) (ten : Bool)

/-- A level that is the filtered one already is no transition. -/
@[simp] theorem LevelFilter.passes_self : f.passes f.level n ten = false := by simp [LevelFilter.passes]

@[simp] theorem LevelFilter.run_self : f.run f.level n ten = f := if_pos rfl

@[simp] theorem LevelFilter.repin_level (old new : Bool) : (f.repin old new).level = f.level := by
  unfold LevelFilter.repin
  split <;> rfl

/-- Before ten clocks no level passes. -/
theorem LevelFilter.passes_early {f : LevelFilter} {n : Nat} (h : f.held + n < 10) : f.passes pin n ten = false := by
  have h1 : ¬11 ≤ f.held + n := by omega
  have h2 : ¬(f.held + n = 10 ∧ n ≠ 0) := by omega
  simp only [LevelFilter.passes, h1, h2, decide_false, Bool.false_and, Bool.or_false, Bool.and_false]

/-- After eleven clocks every other level passes. -/
theorem LevelFilter.passes_late {f : LevelFilter} {pin : Bool} {n : Nat} (hp : pin ≠ f.level) (h : 11 ≤ f.held + n) :
    f.passes pin n ten = true := by
  simp [LevelFilter.passes, hp, h]

/-- What a run of the filter answers: the level has passed, or it has not stood for eleven clocks. -/
theorem LevelFilter.run_cases {f : LevelFilter} {pin : Bool} (hp : pin ≠ f.level) :
    (f.passes pin n ten = true ∧ f.run pin n ten = ⟨pin, 0⟩) ∨
      (f.passes pin n ten = false ∧ f.held + n < 11 ∧ f.run pin n ten = ⟨f.level, f.held + n⟩) := by
  cases hq : f.passes pin n ten with
  | true => exact .inl ⟨rfl, by simp [LevelFilter.run, hp, hq]⟩
  | false =>
    have hn : ¬11 ≤ f.held + n := by
      intro h
      simp [LevelFilter.passes_late ten hp h] at hq
    exact .inr ⟨rfl, by omega, by simp [LevelFilter.run, hp, hq]⟩

/-- `t` is `s` but for the filters and what a transition does. -/
def State.OnlyResetBus (s t : State) : Prop :=
  t = { s with
    resetFilter := t.resetFilter
    sys := { s.sys with rb1Trans := t.sys.rb1Trans, rb0Trans := t.sys.rb0Trans }
    resetReq := t.resetReq
    fresh := t.fresh }

theorem State.resetBusTime_onlyResetBus (s : State) (n : Nat) : s.OnlyResetBus (s.resetBusTime n) := rfl

/-- A reset that is requested stays requested. -/
theorem State.resetBusTime_resetReq {s : State} (h : s.resetReq = true) (n : Nat) : (s.resetBusTime n).resetReq = true := by
  simp [State.resetBusTime, h]

end Sys2Proof.Machine
end

