-- ==== Sys2Proof/Laws/Rti.lean ====
section
/-! SUPPORT. What each operation of the Real-Time Interrupt generator can do: the fields it keeps, the bounds of its 24-bit counter, and
what time leaves of the rest of the machine. -/

namespace Sys2Proof.Machine

open Sys2Proof

/-! ### Intervals -/

@[simp] theorem rtiPeriod_zero : rtiPeriod 0 = 0 := rfl

theorem rtiPeriod_of_ne_zero {dflt : BitVec 24} (h : dflt ≠ 0) : rtiPeriod dflt = max 1024 dflt.toNat :=
  if_neg h

theorem rtiPeriod_fits (dflt : BitVec 24) : rtiPeriod dflt < 2 ^ 24 := by
  have := dflt.isLt
  unfold rtiPeriod
  split <;> omega

theorem RtiGen.fit_of_lt (g : RtiGen) {clocks : Nat} (h : clocks < 2 ^ 24) : g.fit clocks = clocks := if_pos h

/-- Whatever is asked for, the counter takes a length that fits it. -/
theorem RtiGen.fit_lt (g : RtiGen) (clocks : Nat) : g.fit clocks < 2 ^ 24 := by
  have := (Config.freeInterval g.draw g.since clocks).isLt
  unfold RtiGen.fit
  split <;> omega

/-- No interval is made shorter than the minimum. -/
theorem RtiGen.le_fit (g : RtiGen) {clocks : Nat} (h : 1024 ≤ clocks) : 1024 ≤ g.fit clocks := by
  unfold RtiGen.fit
  split
  · exact h
  · exact Nat.le_max_left _ _

theorem RtiGen.le_dividedInterval (g : RtiGen) (clocks divisor : Nat) : 1024 ≤ g.dividedInterval clocks divisor :=
  Nat.le_max_left _ _

theorem RtiGen.dividedInterval_lt (g : RtiGen) (clocks divisor : Nat) : g.dividedInterval clocks divisor < 2 ^ 24 := by
  have := g.fit_lt (clocks / divisor)
  unfold RtiGen.dividedInterval
  omega

theorem RtiGen.dividedInterval_eq (g : RtiGen) {clocks divisor : Nat} (h : clocks / divisor < 2 ^ 24) :
    g.dividedInterval clocks divisor = max 1024 (clocks / divisor) := by
  rw [RtiGen.dividedInterval, g.fit_of_lt h]

theorem PhaseAdjust.apply_le (a : PhaseAdjust) {clocks : Nat} (h : 1024 ≤ clocks) : a.apply clocks ≤ clocks + 1 := by
  cases a <;> simp only [PhaseAdjust.apply] <;> omega

/-! ### One lemma for each field that an operation of the generator keeps -/

section fields

variable (g : RtiGen) (dflt : BitVec 24) (divisor n fuel : Nat)

@[simp] theorem RtiGen.age_count : (g.age n).count = g.count := rfl
@[simp] theorem RtiGen.age_filtered : (g.age n).filtered = g.filtered := rfl
@[simp] theorem RtiGen.age_held : (g.age n).held = g.held := rfl
@[simp] theorem RtiGen.age_edges : (g.age n).edges = g.edges := rfl
@[simp] theorem RtiGen.age_since : (g.age n).since = g.since + n := rfl
@[simp] theorem RtiGen.age_period : (g.age n).period = g.period := rfl
@[simp] theorem RtiGen.age_follows : (g.age n).follows = g.follows := rfl
@[simp] theorem RtiGen.age_synced : (g.age n).synced = g.synced := rfl
@[simp] theorem RtiGen.age_quotient : (g.age n).quotient = g.quotient := rfl
@[simp] theorem RtiGen.age_remainder : (g.age n).remainder = g.remainder := rfl
@[simp] theorem RtiGen.age_pulses : (g.age n).pulses = g.pulses := rfl
@[simp] theorem RtiGen.age_tooShort : (g.age n).tooShort = g.tooShort := rfl
@[simp] theorem RtiGen.age_elapsed : (g.age n).elapsed = g.elapsed + n := rfl
@[simp] theorem RtiGen.age_base : (g.age n).base = g.base := rfl
@[simp] theorem RtiGen.age_left : (g.age n).left = g.left := rfl
@[simp] theorem RtiGen.age_long : (g.age n).long = g.long := rfl
@[simp] theorem RtiGen.age_adjust : (g.age n).adjust = g.adjust := rfl
@[simp] theorem RtiGen.age_draw : (g.age n).draw = g.draw := rfl

/-- Time in two parts is time in one. -/
@[simp] theorem RtiGen.age_age (m : Nat) : (g.age n).age m = g.age (n + m) := by
  simp [RtiGen.age, Nat.add_assoc]

@[simp] theorem RtiGen.nextInterval_filtered : g.nextInterval.filtered = g.filtered := by
  simp only [RtiGen.nextInterval]; split <;> rfl
@[simp] theorem RtiGen.nextInterval_held : g.nextInterval.held = g.held := by
  simp only [RtiGen.nextInterval]; split <;> rfl
@[simp] theorem RtiGen.nextInterval_edges : g.nextInterval.edges = g.edges := by
  simp only [RtiGen.nextInterval]; split <;> rfl
@[simp] theorem RtiGen.nextInterval_since : g.nextInterval.since = g.since := by
  simp only [RtiGen.nextInterval]; split <;> rfl
@[simp] theorem RtiGen.nextInterval_period : g.nextInterval.period = g.period := by
  simp only [RtiGen.nextInterval]; split <;> rfl
@[simp] theorem RtiGen.nextInterval_follows : g.nextInterval.follows = g.follows := by
  simp only [RtiGen.nextInterval]; split <;> rfl
@[simp] theorem RtiGen.nextInterval_synced : g.nextInterval.synced = g.synced := by
  simp only [RtiGen.nextInterval]; split <;> rfl
@[simp] theorem RtiGen.nextInterval_quotient : g.nextInterval.quotient = g.quotient := by
  simp only [RtiGen.nextInterval]; split <;> rfl
@[simp] theorem RtiGen.nextInterval_remainder : g.nextInterval.remainder = g.remainder := by
  simp only [RtiGen.nextInterval]; split <;> rfl
@[simp] theorem RtiGen.nextInterval_pulses : g.nextInterval.pulses = g.pulses := by
  simp only [RtiGen.nextInterval]; split <;> rfl
@[simp] theorem RtiGen.nextInterval_tooShort : g.nextInterval.tooShort = g.tooShort := by
  simp only [RtiGen.nextInterval]; split <;> rfl

@[simp] theorem RtiGen.nextInterval_draw : g.nextInterval.draw = g.draw := by
  simp only [RtiGen.nextInterval]; split <;> rfl

@[simp] theorem RtiGen.reload_filtered : (g.reload dflt divisor).filtered = g.filtered := by
  unfold RtiGen.reload; split <;> simp
@[simp] theorem RtiGen.reload_held : (g.reload dflt divisor).held = g.held := by unfold RtiGen.reload; split <;> simp
@[simp] theorem RtiGen.reload_edges : (g.reload dflt divisor).edges = g.edges := by unfold RtiGen.reload; split <;> simp
@[simp] theorem RtiGen.reload_since : (g.reload dflt divisor).since = g.since := by unfold RtiGen.reload; split <;> simp
@[simp] theorem RtiGen.reload_period : (g.reload dflt divisor).period = g.period := by unfold RtiGen.reload; split <;> simp
@[simp] theorem RtiGen.reload_synced : (g.reload dflt divisor).synced = g.synced := by unfold RtiGen.reload; split <;> simp
@[simp] theorem RtiGen.reload_quotient : (g.reload dflt divisor).quotient = g.quotient := by
  unfold RtiGen.reload; split <;> simp
@[simp] theorem RtiGen.reload_remainder : (g.reload dflt divisor).remainder = g.remainder := by
  unfold RtiGen.reload; split <;> simp
@[simp] theorem RtiGen.reload_pulses : (g.reload dflt divisor).pulses = g.pulses := by unfold RtiGen.reload; split <;> simp
@[simp] theorem RtiGen.reload_tooShort : (g.reload dflt divisor).tooShort = g.tooShort := by
  unfold RtiGen.reload; split <;> simp

/-- What clocks without an edge cannot change: the filter, the measurement, its results, and that `rti_synced` was reached; and they
are all counted since the last edge. -/
structure RtiGen.Ran (g h : RtiGen) (n : Nat) : Prop where
  filtered : h.filtered = g.filtered
  held : h.held = g.held
  edges : h.edges = g.edges
  since : h.since = g.since + n
  period : h.period = g.period
  synced : h.synced = g.synced
  quotient : h.quotient = g.quotient
  remainder : h.remainder = g.remainder
  pulses : h.pulses = g.pulses
  tooShort : h.tooShort = g.tooShort

theorem RtiGen.elapse_ran : RtiGen.Ran g (RtiGen.elapse dflt divisor fuel n g).2 n := by
  induction fuel generalizing n g with
  | zero => exact ⟨rfl, rfl, rfl, rfl, rfl, rfl, rfl, rfl, rfl, rfl⟩
  | succ fuel ih =>
    unfold RtiGen.elapse
    split
    · exact ⟨rfl, rfl, rfl, rfl, rfl, rfl, rfl, rfl, rfl, rfl⟩
    · have h := ih ((g.age g.count).reload dflt divisor) (n - g.count)
      exact ⟨by simpa using h.filtered, by simpa using h.held, by simpa using h.edges, by have := h.since; simp at this ⊢; omega,
        by simpa using h.period, by simpa using h.synced, by simpa using h.quotient, by simpa using h.remainder,
        by simpa using h.pulses, by simpa using h.tooShort⟩

theorem RtiGen.run_ran : RtiGen.Ran g (g.run dflt divisor n).2 n := by
  unfold RtiGen.run
  split
  · exact ⟨rfl, rfl, rfl, rfl, rfl, rfl, rfl, rfl, rfl, rfl⟩
  · dsimp only
    split
    · have h := RtiGen.elapse_ran { g with count := rtiPeriod dflt, elapsed := 0 } dflt divisor n (n / 1024 + 2)
      exact ⟨h.filtered, h.held, h.edges, h.since, h.period, h.synced, h.quotient, h.remainder, h.pulses, h.tooShort⟩
    · exact RtiGen.elapse_ran g dflt divisor n (n / 1024 + 2)

/-- No pulse, no interval begun: the counter runs down. -/
theorem RtiGen.elapse_before {fuel n : Nat} (h : n < g.count) :
    RtiGen.elapse dflt divisor (fuel + 1) n g = (0, { g.age n with count := g.count - n }) := by
  simp [RtiGen.elapse, h]

/-- A pulse: the counter is reloaded and goes on. -/
theorem RtiGen.elapse_pulse {fuel n : Nat} (h0 : g.count ≠ 0) (h : g.count ≤ n) :
    RtiGen.elapse dflt divisor (fuel + 1) n g =
      ((RtiGen.elapse dflt divisor fuel (n - g.count) ((g.age g.count).reload dflt divisor)).1 + 1,
        (RtiGen.elapse dflt divisor fuel (n - g.count) ((g.age g.count).reload dflt divisor)).2) := by
  rw [RtiGen.elapse, if_neg (by omega)]

end fields

/-! ### The counter fits 24 bits -/

/-- The counter and the intervals it can be loaded with fit 24 bits (R56). -/
structure RtiGen.Fits (g : RtiGen) : Prop where
  count : g.count < 2 ^ 24
  quotient : g.quotient < 2 ^ 24
  base : g.base < 2 ^ 24

theorem RtiGen.age_fits {g : RtiGen} (h : g.Fits) (n : Nat) : (g.age n).Fits := ⟨h.count, h.quotient, h.base⟩

theorem RtiGen.start_fits {count : Nat} (h : count < 2 ^ 24) : (RtiGen.start count).Fits :=
  ⟨h, by simp [RtiGen.start], by simp [RtiGen.start]⟩

theorem RtiGen.nextInterval_fits {g : RtiGen} (hq : g.quotient < 2 ^ 24) (hb : g.base < 2 ^ 24) : g.nextInterval.Fits := by
  refine ⟨RtiGen.fit_lt _ _, by simpa using hq, ?_⟩
  simp only [RtiGen.nextInterval]
  split
  · exact hq
  · exact hb

theorem RtiGen.reload_fits {g : RtiGen} (h : g.Fits) (dflt : BitVec 24) (divisor : Nat) : (g.reload dflt divisor).Fits := by
  unfold RtiGen.reload
  split
  · exact RtiGen.nextInterval_fits h.quotient h.base
  · exact ⟨rtiPeriod_fits dflt, h.quotient, h.base⟩

theorem RtiGen.elapse_fits {g : RtiGen} (h : g.Fits) (dflt : BitVec 24) (divisor fuel n : Nat) :
    (RtiGen.elapse dflt divisor fuel n g).2.Fits := by
  induction fuel generalizing n g with
  | zero => exact RtiGen.age_fits h n
  | succ fuel ih =>
    unfold RtiGen.elapse
    split
    · exact ⟨Nat.lt_of_le_of_lt (Nat.sub_le _ _) h.count, h.quotient, h.base⟩
    · exact ih (RtiGen.reload_fits (RtiGen.age_fits h _) dflt divisor) _

theorem RtiGen.run_fits {g : RtiGen} (h : g.Fits) (dflt : BitVec 24) (divisor n : Nat) : (g.run dflt divisor n).2.Fits := by
  unfold RtiGen.run
  split
  · exact RtiGen.age_fits h n
  · dsimp only
    split
    · exact RtiGen.elapse_fits (g := { g with count := rtiPeriod dflt, elapsed := 0 }) ⟨rtiPeriod_fits dflt, h.quotient, h.base⟩ dflt divisor _ n
    · exact RtiGen.elapse_fits h dflt divisor _ n

theorem RtiGen.align_fits {g : RtiGen} (h : g.Fits) : g.align.Fits := by
  unfold RtiGen.align
  split
  · have := RtiGen.nextInterval_fits
      (g := { g with left := 0, adjust := if g.elapsed ≤ 1 then .exact else .longer }) h.quotient h.base
    exact ⟨by have := this.count; simp only; omega, this.quotient, this.base⟩
  · exact ⟨h.count, h.quotient, h.base⟩

/-- The frame that begins at an edge uses the results just calculated: at once, or from the next pulse on. -/
theorem RtiGen.align_new_results (g : RtiGen) :
    (g.align.base = g.quotient ∧ g.align.left = g.pulses - 1 ∧ g.align.long = g.remainder - 1) ∨ g.align.left = 0 := by
  unfold RtiGen.align
  split
  · exact .inl ⟨rfl, rfl, rfl⟩
  · exact .inr rfl

theorem RtiGen.edge_fits {g : RtiGen} (h : g.Fits) (divisor draw : Nat) : (g.edge divisor draw).Fits := by
  have hq := RtiGen.dividedInterval_lt { g with edges := 2, since := 0, period := g.since, draw := draw } g.since divisor
  unfold RtiGen.edge
  split
  · exact ⟨h.count, h.quotient, h.base⟩
  · dsimp only
    split
    · exact ⟨h.count, h.quotient, h.base⟩
    · split
      · exact ⟨h.count, hq, h.base⟩
      · split
        · exact RtiGen.align_fits ⟨h.count, hq, h.base⟩
        · exact RtiGen.nextInterval_fits hq h.base

theorem RtiGen.repin_fits {g : RtiGen} (h : g.Fits) (c c' : Bool) (d d' : Nat) : (g.repin c c' d d').Fits :=
  ⟨h.count, h.quotient, h.base⟩

/-- An edge is counted, up to two, and ends or starts a measurement. -/
theorem RtiGen.edge_edges (g : RtiGen) (divisor draw : Nat) : (g.edge divisor draw).edges = 1 ∨ (g.edge divisor draw).edges = 2 := by
  unfold RtiGen.edge
  split
  · exact .inl rfl
  · refine .inr ?_
    dsimp only
    split
    · rfl
    · split
      · rfl
      · split
        · unfold RtiGen.align
          split <;> simp
        · simp

/-! ### The rest of the machine -/

section machine

variable (s : State) (k n : Nat)

@[simp] theorem State.rtiPulses_rti : (s.rtiPulses k).rti = s.rti := rfl
@[simp] theorem State.rtiPulses_pins : (s.rtiPulses k).pins = s.pins := rfl
@[simp] theorem State.rtiPulses_params : (s.rtiPulses k).params = s.params := rfl
@[simp] theorem State.rtiPulses_fresh : (s.rtiPulses k).fresh = s.fresh := rfl
@[simp] theorem State.rtiPulses_mem : (s.rtiPulses k).mem = s.mem := rfl
@[simp] theorem State.rtiPulses_sys : (s.rtiPulses k).sys = s.sys := rfl
@[simp] theorem State.rtiPulses_dma : (s.rtiPulses k).dma = s.dma := rfl
@[simp] theorem State.rtiPulses_trace : (s.rtiPulses k).trace = List.replicate k .rtiPulse ++ s.trace := rfl
@[simp] theorem State.rtiPulses_nmiPending : (s.rtiPulses k).nmiPending = (s.nmiPending || (s.pins.rtiNmi && k != 0)) := rfl
@[simp] theorem State.rtiPulses_zero : s.rtiPulses 0 = s := by simp [State.rtiPulses]

/-- `t` is `s` but for the RTI generator and what it drives. -/
def State.OnlyRti (s t : State) : Prop :=
  t = { s with rti := t.rti, trace := t.trace, nmiPending := t.nmiPending, fresh := t.fresh }

theorem State.OnlyRti.trans {s t u : State} (h : s.OnlyRti t) (k : t.OnlyRti u) : s.OnlyRti u := by
  unfold State.OnlyRti at *; rw [k, h]

theorem State.rtiRun_onlyRti : s.OnlyRti (s.rtiRun n) := rfl

theorem State.refClockFiltered_onlyRti : s.OnlyRti s.refClockFiltered := by
  unfold State.refClockFiltered
  dsimp only
  split
  · split <;> rfl
  · rfl

/-- Time moves the RTI generator and changes nothing else but the trace, a request it makes, and a free value it draws. -/
theorem State.rtiTime_onlyRti : s.OnlyRti (s.rtiTime n) := by
  unfold State.rtiTime
  split
  · exact s.rtiRun_onlyRti n
  · split
    · rfl
    · exact ((s.rtiRun_onlyRti _).trans (s.rtiRun _).refClockFiltered_onlyRti).trans (State.rtiRun_onlyRti _ _)

theorem State.rtiRun_fits {s : State} (h : s.rti.Fits) (n : Nat) : (s.rtiRun n).rti.Fits :=
  RtiGen.run_fits h _ _ _

theorem State.refClockFiltered_fits {s : State} (h : s.rti.Fits) : s.refClockFiltered.rti.Fits := by
  have e := RtiGen.edge_fits (g := { s.rti with filtered := s.pins.refClock, held := 0 }) ⟨h.count, h.quotient, h.base⟩
    s.pins.rtiDivisor.toNat s.fresh
  unfold State.refClockFiltered
  dsimp only
  split
  · split
    · exact ⟨rtiPeriod_fits _, e.quotient, e.base⟩
    · exact e
  · exact ⟨h.count, h.quotient, h.base⟩

/-- Time keeps the counter of the RTI generator within its 24 bits. -/
theorem State.rtiTime_fits {s : State} (h : s.rti.Fits) (n : Nat) : (s.rtiTime n).rti.Fits := by
  unfold State.rtiTime
  split
  · exact State.rtiRun_fits h n
  · split
    · exact State.rtiRun_fits (s := { s with rti := { s.rti with held := s.rti.held + n } }) ⟨h.count, h.quotient, h.base⟩ n
    · exact State.rtiRun_fits (State.refClockFiltered_fits (State.rtiRun_fits h _)) _

end machine

end Sys2Proof.Machine
end

