-- ==== Sys2Proof/Tests/Slice0.lean ====
section
/-! SUPPORT. Tests. The decode words are written out from the encodings of spec/opcode_table.json; the expected results of the steps are
those of spec/95_test_vectors.md, whose ids stand in the docstrings. Then one state for each hypothesis of a statement, to show that
something meets it. -/

namespace Sys2Proof.Machine.Tests

open Sys2Proof Sys2Proof.Machine

/-! ## Helpers -/

/-- The table word of some bytes, the first byte the most significant, and what the decoder reads from it. -/
def reads (bytes : List Nat) : Option Instr :=
  decodeTableWord (8 * bytes.length) (bytes.foldl (fun w v => w * 256 + v) 0)

/-- Every word of the list decodes to the instruction beside it. -/
def allRead (xs : List (List Nat × Instr)) : Bool := xs.all (fun x => reads x.1 == some x.2)

/-- Memory with the bytes of `data`. -/
def fill (m : Memory) (data : List (Nat × Nat)) : Memory := data.foldl (fun m x => m.store x.1 (BitVec.ofNat 8 x.2)) m

/-- The machine after reset with `code` from `pc` on and the bytes of `data` in memory; PC is 0x0100 where a test names no other. -/
def bootAt (pc : Nat) (code : List Nat) (data : List (Nat × Nat)) : State :=
  { State.reset with
    pc := BitVec.ofNat 16 pc
    mem := fill (fill State.reset.mem (code.zipIdx.map (fun x => ((pc + x.2) % 65536, x.1)))) data }

/-- `bootAt 0x0100`. -/
def boot (code : List Nat) (data : List (Nat × Nat)) : State := bootAt 0x0100 code data

/-- The state with the byte `v` in F. -/
def withF (v : Byte) (s : State) : State := { s with main := { s.main with f := Flags.ofByte v } }

/-- The CPU variant of a state. -/
def asCpu (s : State) : State := { s with params := { s.params with variant := .cpu } }

/-- The state after one step. -/
def after (s : State) : State :=
  match step s with
  | .next t => t
  | _ => s

/-- F under the mask 0xD7, as the vectors print it. -/
def flagsOf (t : State) : Nat :=
  let f := t.main.f
  128 * f.s.toNat + 64 * f.z.toNat + 16 * f.h.toNat + 4 * f.pv.toNat + 2 * f.n.toNat + f.c.toNat

/-! ## Well-formedness: the one check is the variant -/

theorem test_refused_in_cpu_ldmHlMmu : Instr.wellFormed .cpu .ldmHlMmu = false ∧ Instr.wellFormed .mpu .ldmHlMmu = true := by decide

theorem test_refused_in_cpu_ldmHlMmuh : Instr.wellFormed .cpu .ldmHlMmuh = false ∧ Instr.wellFormed .mpu .ldmHlMmuh = true := by decide

theorem test_refused_in_cpu_ldmMmuHl : Instr.wellFormed .cpu .ldmMmuHl = false ∧ Instr.wellFormed .mpu .ldmMmuHl = true := by decide

theorem test_refused_in_cpu_ldmMmuhHl : Instr.wellFormed .cpu .ldmMmuhHl = false ∧ Instr.wellFormed .mpu .ldmMmuhHl = true := by decide

theorem test_refused_in_cpu_ldmsMmuHl : Instr.wellFormed .cpu .ldmsMmuHl = false ∧ Instr.wellFormed .mpu .ldmsMmuHl = true := by decide

theorem test_refused_in_cpu_swap : Instr.wellFormed .cpu .swap = false ∧ Instr.wellFormed .mpu .swap = true := by decide

theorem test_refused_in_cpu_wdarm : Instr.wellFormed .cpu .wdarm = false ∧ Instr.wellFormed .mpu .wdarm = true := by decide

theorem test_refused_in_cpu_wdres : Instr.wellFormed .cpu .wdres = false ∧ Instr.wellFormed .mpu .wdres = true := by decide

theorem test_refused_in_cpu_ldmHlSys : Instr.wellFormed .cpu .ldmHlSys = false ∧ Instr.wellFormed .mpu .ldmHlSys = true := by decide

theorem test_accepted_in_cpu : Instr.wellFormed .cpu .ldir = true := by decide

/-! ## Decoding: every constructor, from the encoding of its table row -/

theorem test_decode_arith8_0 : allRead [
    ([0b10000000], .addAR .b),
    ([0b11000110, 0b10000000], .addAN 0x80),
    ([0b10000110], .addAHl),
    ([0b11011101, 0b10000110, 0b11111110], .addAXd .ix 0xFE),
    ([0b10001011], .adcAR .e),
    ([0b11001110, 0b11101101], .adcAN 0xED),
    ([0b10001110], .adcAHl),
    ([0b11111101, 0b10001110, 0b00000001], .adcAXd .iy 0x01),
    ([0b10010111], .subAR .a),
    ([0b11010110, 0b11001011], .subAN 0xCB),
    ([0b10010110], .subAHl),
    ([0b11011101, 0b10010110, 0b01111111], .subAXd .ix 0x7F),
    ([0b10011010], .sbcAR .d),
    ([0b11011110, 0b00110110], .sbcAN 0x36),
    ([0b10011110], .sbcAHl),
    ([0b11111101, 0b10011110, 0b10000000], .sbcAXd .iy 0x80)] = true := by decide

theorem test_decode_arith8_1 : allRead [
    ([0b10100101], .andAR .l),
    ([0b11100110, 0b11111110], .andAN 0xFE),
    ([0b10100110], .andAHl),
    ([0b11011101, 0b10100110, 0b11101101], .andAXd .ix 0xED),
    ([0b10101001], .xorAR .c),
    ([0b11101110, 0b00000001], .xorAN 0x01),
    ([0b10101110], .xorAHl),
    ([0b11111101, 0b10101110, 0b11001011], .xorAXd .iy 0xCB),
    ([0b10110100], .orAR .h),
    ([0b11110110, 0b01111111], .orAN 0x7F),
    ([0b10110110], .orAHl),
    ([0b11011101, 0b10110110, 0b00110110], .orAXd .ix 0x36),
    ([0b10111000], .cpAR .b),
    ([0b11111110, 0b10000000], .cpAN 0x80),
    ([0b10111110], .cpAHl),
    ([0b11111101, 0b10111110, 0b11111110], .cpAXd .iy 0xFE)] = true := by decide

theorem test_decode_arith8_2 : allRead [
    ([0b00111111], .ccf),
    ([0b00101111], .cpl),
    ([0b00100111], .daa),
    ([0b00011101], .decR .e),
    ([0b00110101], .decHl),
    ([0b11011101, 0b00110101, 0b11101101], .decXd .ix 0xED),
    ([0b00111100], .incR .a),
    ([0b00110100], .incHl),
    ([0b11111101, 0b00110100, 0b00000001], .incXd .iy 0x01),
    ([0b11101101, 0b01000100], .neg),
    ([0b00110111], .scf),
    ([0b11101101, 0b00010100], .tstR .d),
    ([0b11101101, 0b01100100, 0b11001011], .tstN 0xCB),
    ([0b11101101, 0b00110100], .tstHl)] = true := by decide

theorem test_decode_arith16 : allRead [
    ([0b11101101, 0b01001010], .adcHlSs .bc),
    ([0b00111001], .addHlSs .sp),
    ([0b11011101, 0b00001001], .addIxXx .bc),
    ([0b11111101, 0b00001001], .addIyYy .bc),
    ([0b00101011], .decDd .hl),
    ([0b11011101, 0b00101011], .decXy .ix),
    ([0b00010011], .incDd .de),
    ([0b11111101, 0b00100011], .incXy .iy),
    ([0b11101101, 0b01001100], .mltSs .bc),
    ([0b11101101, 0b01110010], .sbcHlSs .sp)] = true := by decide

theorem test_decode_load8_0 : allRead [
    ([0b00111010, 0b00110100, 0b00010010], .ldAMn 0x1234),
    ([0b00001010], .ldABc),
    ([0b00011010], .ldADe),
    ([0b11101101, 0b01010111], .ldAI),
    ([0b11101101, 0b01011111], .ldAR),
    ([0b00110010, 0b00000001, 0b11101101], .ldMnA 0xED01),
    ([0b00000010], .ldBcA),
    ([0b00010010], .ldDeA),
    ([0b00110110, 0b01111111], .ldHlN 0x7F),
    ([0b11011101, 0b00110110, 0b00110110, 0b10000000], .ldXdN .ix 0x36 0x80),
    ([0b01110101], .ldHlR .l),
    ([0b11111101, 0b01110001, 0b11111110], .ldXdR .iy 0xFE .c),
    ([0b01100000], .ldRR .h .b),
    ([0b00011110, 0b11101101], .ldRN .e 0xED),
    ([0b01111110], .ldRHl .a),
    ([0b11111101, 0b01010110, 0b00000001], .ldRXd .d .iy 0x01)] = true := by decide

theorem test_decode_load8_1 : allRead [
    ([0b11101101, 0b01000111], .ldIA),
    ([0b11101101, 0b01001111], .ldRA)] = true := by decide

theorem test_decode_load16_0 : allRead [
    ([0b00100010, 0b11111111, 0b10000000], .ldMnHl 0x80FF),
    ([0b11101101, 0b01100011, 0b11111110, 0b11111111], .ldMnSs 0xFFFE .hl),
    ([0b11011101, 0b00100010, 0b11001011, 0b00000000], .ldMnXy 0x00CB .ix),
    ([0b00010001, 0b00110100, 0b00010010], .ldDdMn .de 0x1234),
    ([0b11011101, 0b00100001, 0b00000001, 0b11101101], .ldXyMn .ix 0xED01),
    ([0b00101010, 0b11111111, 0b10000000], .ldHlFromMn 0x80FF),
    ([0b11101101, 0b01001011, 0b11111110, 0b11111111], .ldDdFromMn .bc 0xFFFE),
    ([0b11111101, 0b00101010, 0b11001011, 0b00000000], .ldXyFromMn .iy 0x00CB),
    ([0b11111001], .ldSpHl),
    ([0b11011101, 0b11111001], .ldSpXy .ix),
    ([0b11000001], .popTt .bc),
    ([0b11111101, 0b11100001], .popXy .iy),
    ([0b11110101], .pushTt .af),
    ([0b11011101, 0b11100101], .pushXy .ix),
    ([0b11100011], .exSpHl),
    ([0b11111101, 0b11100011], .exSpXy .iy)] = true := by decide

theorem test_decode_load16_1 : allRead [
    ([0b00001000], .exAfAf),
    ([0b11101011], .exDeHl),
    ([0b11011001], .exx)] = true := by decide

theorem test_decode_bit : allRead [
    ([0b11001011, 0b01000101], .bitR 0 .l),
    ([0b11001011, 0b01011110], .bitHl 3),
    ([0b11011101, 0b11001011, 0b11001011, 0b01110110], .bitXd 6 .ix 0xCB),
    ([0b11001011, 0b10001001], .resR 1 .c),
    ([0b11001011, 0b10100110], .resHl 4),
    ([0b11111101, 0b11001011, 0b01111111, 0b10111110], .resXd 7 .iy 0x7F),
    ([0b11001011, 0b11010010], .setR 2 .d),
    ([0b11001011, 0b11101110], .setHl 5),
    ([0b11011101, 0b11001011, 0b00000001, 0b11000110], .setXd 0 .ix 0x01)] = true := by decide

theorem test_decode_rotate_0 : allRead [
    ([0b11001011, 0b00010100], .rlR .h),
    ([0b11001011, 0b00010110], .rlHl),
    ([0b11011101, 0b11001011, 0b00110110, 0b00010110], .rlXd .ix 0x36),
    ([0b00010111], .rla),
    ([0b11001011, 0b00000000], .rlcR .b),
    ([0b11001011, 0b00000110], .rlcHl),
    ([0b11111101, 0b11001011, 0b10000000, 0b00000110], .rlcXd .iy 0x80),
    ([0b00000111], .rlca),
    ([0b11101101, 0b01101111], .rld),
    ([0b11001011, 0b00011011], .rrR .e),
    ([0b11001011, 0b00011110], .rrHl),
    ([0b11011101, 0b11001011, 0b11111110, 0b00011110], .rrXd .ix 0xFE),
    ([0b00011111], .rra),
    ([0b11001011, 0b00001111], .rrcR .a),
    ([0b11001011, 0b00001110], .rrcHl),
    ([0b11111101, 0b11001011, 0b11101101, 0b00001110], .rrcXd .iy 0xED)] = true := by decide

theorem test_decode_rotate_1 : allRead [
    ([0b00001111], .rrca),
    ([0b11101101, 0b01100111], .rrd),
    ([0b11001011, 0b00100101], .slaR .l),
    ([0b11001011, 0b00100110], .slaHl),
    ([0b11111101, 0b11001011, 0b11001011, 0b00100110], .slaXd .iy 0xCB),
    ([0b11001011, 0b00101001], .sraR .c),
    ([0b11001011, 0b00101110], .sraHl),
    ([0b11011101, 0b11001011, 0b01111111, 0b00101110], .sraXd .ix 0x7F),
    ([0b11001011, 0b00111100], .srlR .h),
    ([0b11001011, 0b00111110], .srlHl),
    ([0b11111101, 0b11001011, 0b00110110, 0b00111110], .srlXd .iy 0x36)] = true := by decide

theorem test_decode_control : allRead [
    ([0b11001101, 0b00110100, 0b00010010], .callMn 0x1234),
    ([0b11000100, 0b00000001, 0b11101101], .callCcMn .nz 0xED01),
    ([0b00010000, 0b10000000], .djnz 0x80),
    ([0b11000011, 0b11111111, 0b10000000], .jpMn 0x80FF),
    ([0b11101001], .jpHl),
    ([0b11011101, 0b11101001], .jpXy .ix),
    ([0b11011010, 0b11111110, 0b11111111], .jpCcMn .c 0xFFFE),
    ([0b00011000, 0b11111110], .jr 0xFE),
    ([0b00100000, 0b11101101], .jrCc .nz 0xED),
    ([0b11001001], .ret),
    ([0b11110000], .retCc .p),
    ([0b11101101, 0b01001101], .reti),
    ([0b11101101, 0b01000101], .retn),
    ([0b11011111], .rst 3)] = true := by decide

theorem test_decode_block : allRead [
    ([0b11101101, 0b10101001], .cpd),
    ([0b11101101, 0b10111001], .cpdr),
    ([0b11101101, 0b10100001], .cpi),
    ([0b11101101, 0b10110001], .cpir),
    ([0b11101101, 0b10101000], .ldd),
    ([0b11101101, 0b10111000], .lddr),
    ([0b11101101, 0b10100000], .ldi),
    ([0b11101101, 0b10110000], .ldir)] = true := by decide

theorem test_decode_io_0 : allRead [
    ([0b11011011, 0b00000001], .inAN 0x01),
    ([0b11101101, 0b01000000], .inRC .b),
    ([0b11101101, 0b00011000, 0b11001011], .in0RN .e 0xCB),
    ([0b11101101, 0b10101010], .ind),
    ([0b11101101, 0b10111010], .indr),
    ([0b11101101, 0b10100010], .ini),
    ([0b11101101, 0b10110010], .inir),
    ([0b11101101, 0b10001011], .otdm),
    ([0b11101101, 0b10011011], .otdmr),
    ([0b11101101, 0b10111011], .otdr),
    ([0b11101101, 0b10000011], .otim),
    ([0b11101101, 0b10010011], .otimr),
    ([0b11101101, 0b10110011], .otir),
    ([0b11010011, 0b01111111], .outNA 0x7F),
    ([0b11101101, 0b01111001], .outCR .a),
    ([0b11101101, 0b00010001, 0b00110110], .out0NR 0x36 .d)] = true := by decide

theorem test_decode_io_1 : allRead [
    ([0b11101101, 0b10101011], .outd),
    ([0b11101101, 0b10100011], .outi),
    ([0b11101101, 0b01110100, 0b10000000], .tstioN 0x80)] = true := by decide

theorem test_decode_cpucontrol : allRead [
    ([0b11110011], .di),
    ([0b11111011], .ei),
    ([0b01110110], .halt),
    ([0b11101101, 0b01000110], .im0),
    ([0b11101101, 0b01010110], .im1),
    ([0b11101101, 0b01011110], .im2),
    ([0b00000000], .nop),
    ([0b11101101, 0b01110110], .slp)] = true := by decide

theorem test_decode_mpu : allRead [
    ([0b11101101, 0b10000010], .ldmHlMmu),
    ([0b11101101, 0b10010010], .ldmHlMmuh),
    ([0b11101101, 0b10000000], .ldmMmuHl),
    ([0b11101101, 0b10010000], .ldmMmuhHl),
    ([0b11101101, 0b10001000], .ldmsMmuHl),
    ([0b11101101, 0b01111111], .swap),
    ([0b11101101, 0b01101110], .wdarm),
    ([0b11101101, 0b01111110], .wdres),
    ([0b11101101, 0b10011010], .ldmHlSys)] = true := by decide

/-- Undefined encodings are refused by name (R132, R133, R134, R140): CB 30, ED 02, DD 00, DD DD, DD CB 05 36. -/
theorem test_decode_undefined :
    reads [0xCB, 0x30] = none ∧ reads [0xED, 0x02] = none ∧ reads [0xDD, 0x00] = none ∧ reads [0xDD, 0xDD] = none ∧
      reads [0xDD, 0xCB, 0x05, 0x36] = none ∧ decode .cpu 0xED 0x7F 0 0 = .illegal2 := by decide

/-! ## One step each, from the vectors of the spec -/

/-- V40-04 (R172). -/
theorem test_load_a_i :
    let t := after { withF 0x01 ((boot [0xED, 0x57] []).setA 0xFF) with i := 0x00, iff2 := true }
    t.main.a = 0x00 ∧ flagsOf t = 0x45 ∧ t.pc = 0x0102 := by decide

/-- V40-06 (R172). -/
theorem test_load_a_r :
    let t := after { withF 0x00 ((boot [0xED, 0x5F] []).setA 0x00) with r := 0x7F, iff2 := true }
    t.main.a = 0x7F ∧ flagsOf t = 0x04 ∧ t.pc = 0x0102 := by decide

/-- V40-12 (R174). -/
theorem test_store_indexed_immediate :
    let t := after { boot [0xFD, 0x36, 0xFE, 0x99] [] with iy := 0x0001 }
    flagsOf t = 0x00 ∧ t.pc = 0x0104 ∧ t.mem.read 0xFFFF = 0x99 := by decide

/-- V40-16 (R175). -/
theorem test_store_indexed_register :
    let t := after { (boot [0xFD, 0x73, 0x80] []).setDe 0x00EE with iy := 0x4000 }
    flagsOf t = 0x00 ∧ t.pc = 0x0103 ∧ t.mem.read 0x3F80 = 0xEE := by decide

/-- V40-20 (R177). -/
theorem test_load_l_from_hl :
    let t := after ((boot [0x6E] [(0x4000, 0x66)]).setHl 0x4000)
    t.hl = 0x4066 ∧ flagsOf t = 0x00 ∧ t.pc = 0x0101 := by decide

/-- V40-21 (R177). -/
theorem test_load_h_indexed :
    let t := after { (boot [0xDD, 0x66, 0x05] [(0x4005, 0x77)]).setHl 0x0000 with ix := 0x4000 }
    t.hl = 0x7700 ∧ flagsOf t = 0x00 ∧ t.pc = 0x0103 := by decide

/-- V40-26 (R176). -/
theorem test_store_hl_wraps :
    let t := after ((boot [0x22, 0xFF, 0xFF] []).setHl 0x1234)
    flagsOf t = 0x00 ∧ t.pc = 0x0103 ∧ t.mem.read 0x0000 = 0x12 ∧ t.mem.read 0xFFFF = 0x34 := by decide

/-- V40-28 (R176). -/
theorem test_store_sp :
    let t := after { boot [0xED, 0x73, 0x00, 0x40] [] with sp := 0x8001 }
    flagsOf t = 0x00 ∧ t.pc = 0x0104 ∧ t.mem.read 0x4000 = 0x01 ∧ t.mem.read 0x4001 = 0x80 := by decide

/-- V40-37 (R179). -/
theorem test_load_sp_from_memory :
    let t := after (boot [0xED, 0x7B, 0x00, 0x40] [(0x4000, 0x34), (0x4001, 0x12)])
    t.sp = 0x1234 ∧ flagsOf t = 0x00 ∧ t.pc = 0x0104 := by decide

/-- V40-38 (R179). -/
theorem test_load_ix_wraps :
    let t := after (boot [0xDD, 0x2A, 0xFF, 0xFF] [(0xFFFF, 0x34), (0x0000, 0x12)])
    t.ix = 0x1234 ∧ flagsOf t = 0x00 ∧ t.pc = 0x0104 := by decide

/-- V40-43 (R183). -/
theorem test_push_af :
    let t := after { withF 0xD7 ((boot [0xF5] []).setA 0x12) with sp := 0x8000 }
    t.sp = 0x7FFE ∧ flagsOf t = 0xD7 ∧ t.pc = 0x0101 ∧ t.mem.read 0x7FFE = 0xD7 ∧ t.mem.read 0x7FFF = 0x12 := by decide

/-- V40-44 (R183). -/
theorem test_push_wraps :
    let t := after { (boot [0xD5] []).setDe 0xABCD with sp := 0x0001 }
    t.sp = 0xFFFF ∧ flagsOf t = 0x00 ∧ t.pc = 0x0101 ∧ t.mem.read 0x0000 = 0xAB ∧ t.mem.read 0xFFFF = 0xCD := by decide

/-- V40-48 (R182). -/
theorem test_pop_af :
    let t := after { withF 0x00 (boot [0xF1] [(0x7FFE, 0xD7), (0x7FFF, 0x12)]) with sp := 0x7FFE }
    t.main.a = 0x12 ∧ t.sp = 0x8000 ∧ flagsOf t = 0xD7 ∧ t.pc = 0x0101 := by decide

/-- V40-49 (R182). -/
theorem test_pop_wraps :
    let t := after { boot [0xE1] [(0xFFFF, 0x34), (0x0000, 0x12)] with sp := 0xFFFF }
    t.hl = 0x1234 ∧ t.sp = 0x0001 ∧ flagsOf t = 0x00 ∧ t.pc = 0x0101 := by decide

/-- V40-52 (R184). -/
theorem test_exchange_stack_top :
    let t := after { (boot [0xE3] [(0x7FFE, 0x78), (0x7FFF, 0x56)]).setHl 0x1234 with sp := 0x7FFE }
    t.hl = 0x5678 ∧ flagsOf t = 0x00 ∧ t.pc = 0x0101 ∧ t.mem.read 0x7FFE = 0x34 ∧ t.mem.read 0x7FFF = 0x12 := by decide

/-- V40-55 (R186). -/
theorem test_exchange_de_hl :
    let t := after (((boot [0xEB] []).setDe 0x1111).setHl 0x2222)
    t.de = 0x2222 ∧ t.hl = 0x1111 ∧ flagsOf t = 0x00 ∧ t.pc = 0x0101 := by decide

/-- V41-04 (R223). -/
theorem test_add_carry_overflow_zero :
    let t := after (((boot [0x80] []).setA 0x80).setBc 0x8000)
    t.main.a = 0x00 ∧ flagsOf t = 0x45 ∧ t.pc = 0x0101 := by decide

/-- V41-08 (R223). -/
theorem test_add_indexed_backwards :
    let t := after { (boot [0xFD, 0x86, 0xFD] [(0x3FFD, 0x22)]).setA 0x10 with iy := 0x4000 }
    t.main.a = 0x32 ∧ flagsOf t = 0x00 ∧ t.pc = 0x0103 := by decide

/-- V41-10 (R222). -/
theorem test_adc_carry_overflows :
    let t := after (withF 0x01 (((boot [0x88] []).setA 0x7F).setBc 0x0000))
    t.main.a = 0x80 ∧ flagsOf t = 0x94 ∧ t.pc = 0x0101 := by decide

/-- V41-15 (R235). -/
theorem test_sub_overflows :
    let t := after (((boot [0x90] []).setA 0x80).setBc 0x0100)
    t.main.a = 0x7F ∧ flagsOf t = 0x16 ∧ t.pc = 0x0101 := by decide

/-- V41-20 (R233). -/
theorem test_sbc_borrow_overflows :
    let t := after (withF 0x01 (((boot [0x98] []).setA 0x80).setBc 0x0000))
    t.main.a = 0x7F ∧ flagsOf t = 0x16 ∧ t.pc = 0x0101 := by decide

/-- V41-21 (R233). -/
theorem test_sbc_zero :
    let t := after (withF 0x01 ((boot [0xDE, 0x0F] []).setA 0x10))
    t.main.a = 0x00 ∧ flagsOf t = 0x52 ∧ t.pc = 0x0102 := by decide

/-- V41-24 (R226). -/
theorem test_compare_less :
    let t := after (withF 0x00 ((boot [0xFE, 0x43] []).setA 0x42))
    flagsOf t = 0x93 ∧ t.pc = 0x0102 := by decide

/-- V41-28 (R224). -/
theorem test_and_odd_parity :
    let t := after (withF 0x00 ((boot [0xE6, 0x80] []).setA 0xFF))
    t.main.a = 0x80 ∧ flagsOf t = 0x90 ∧ t.pc = 0x0102 := by decide

/-- V41-33 (R237). -/
theorem test_xor_immediate :
    let t := after (withF 0x00 ((boot [0xEE, 0xFF] []).setA 0x55))
    t.main.a = 0xAA ∧ flagsOf t = 0x84 ∧ t.pc = 0x0102 := by decide

/-- V41-30 (R232). -/
theorem test_or_immediate :
    let t := after (withF 0x00 ((boot [0xF6, 0xF0] []).setA 0x0F))
    t.main.a = 0xFF ∧ flagsOf t = 0x84 ∧ t.pc = 0x0102 := by decide

/-- V41-35 (R230). -/
theorem test_inc_keeps_carry :
    let t := after (withF 0x01 ((boot [0x04] []).setBc 0xFF00))
    t.bc = 0x0000 ∧ flagsOf t = 0x51 ∧ t.pc = 0x0101 := by decide

/-- V41-38 (R230). -/
theorem test_inc_indexed :
    let t := after { withF 0x00 (boot [0xDD, 0x34, 0xFF] [(0x3FFF, 0xFF)]) with ix := 0x4000 }
    flagsOf t = 0x50 ∧ t.pc = 0x0103 ∧ t.mem.read 0x3FFF = 0x00 := by decide

/-- V41-40 (R229). -/
theorem test_dec_overflows :
    let t := after (withF 0x00 ((boot [0x3D] []).setA 0x80))
    t.main.a = 0x7F ∧ flagsOf t = 0x16 ∧ t.pc = 0x0101 := by decide

/-- V41-42 (R229). -/
theorem test_dec_memory :
    let t := after (withF 0x00 ((boot [0x35] [(0x4000, 0x10)]).setHl 0x4000))
    flagsOf t = 0x12 ∧ t.pc = 0x0101 ∧ t.mem.read 0x4000 = 0x0F := by decide

/-- V41-45 (R231). -/
theorem test_neg_zero :
    let t := after (withF 0x01 ((boot [0xED, 0x44] []).setA 0x00))
    flagsOf t = 0x42 ∧ t.pc = 0x0102 := by decide

/-- V41-46 (R231). -/
theorem test_neg_most_negative :
    let t := after (withF 0x00 ((boot [0xED, 0x44] []).setA 0x80))
    flagsOf t = 0x87 ∧ t.pc = 0x0102 := by decide

/-- V41-48 (R227). -/
theorem test_cpl_keeps_flags :
    let t := after (withF 0xC5 ((boot [0x2F] []).setA 0x00))
    t.main.a = 0xFF ∧ flagsOf t = 0xD7 ∧ t.pc = 0x0101 := by decide

/-- V41-50 (R234). -/
theorem test_scf_keeps_flags :
    let t := after (withF 0xC4 (boot [0x37] []))
    flagsOf t = 0xC5 ∧ t.pc = 0x0101 := by decide

/-- V41-51 (R225). -/
theorem test_ccf_half_carry :
    let t := after (withF 0x01 (boot [0x3F] []))
    flagsOf t = 0x10 ∧ t.pc = 0x0101 := by decide

/-- V41-55 (R236). -/
theorem test_test_immediate :
    let t := after (withF 0x00 ((boot [0xED, 0x64, 0x80] []).setA 0x81))
    flagsOf t = 0x90 ∧ t.pc = 0x0103 := by decide

/-- V41-59 (R228). -/
theorem test_daa_carry :
    let t := after (withF 0x00 ((boot [0x27] []).setA 0x9A))
    t.main.a = 0x00 ∧ [t.main.f.s, t.main.f.z, t.main.f.pv, t.main.f.n, t.main.f.c] = [false, true, true, false, true] ∧ t.pc = 0x0101 := by decide

/-- V41-64 (R228). -/
theorem test_daa_after_subtraction :
    let t := after (withF 0x12 ((boot [0x27] []).setA 0x0F))
    t.main.a = 0x09 ∧ [t.main.f.s, t.main.f.z, t.main.f.pv, t.main.f.n, t.main.f.c] = [false, false, true, true, false] ∧ t.pc = 0x0101 := by decide

/-- V42-01 (R271). -/
theorem test_add_word_half_carry :
    let t := after (withF 0xC6 (((boot [0x09] []).setHl 0x0FFF).setBc 0x0001))
    t.hl = 0x1000 ∧ flagsOf t = 0xD4 ∧ t.pc = 0x0101 := by decide

/-- V42-06 (R271). -/
theorem test_add_ix_to_itself :
    let t := after { withF 0x00 (boot [0xDD, 0x29] []) with ix := 0x8800 }
    t.ix = 0x1000 ∧ flagsOf t = 0x11 ∧ t.pc = 0x0102 := by decide

/-- V42-07 (R271). -/
theorem test_add_iy_sp :
    let t := after { withF 0x00 (boot [0xFD, 0x39] []) with iy := 0xFFFF, sp := 0x0002 }
    t.iy = 0x0001 ∧ flagsOf t = 0x11 ∧ t.pc = 0x0102 := by decide

/-- V42-09 (R270). -/
theorem test_adc_word_overflow :
    let t := after (withF 0x01 (((boot [0xED, 0x4A] []).setHl 0x7FFF).setBc 0x0000))
    t.hl = 0x8000 ∧ flagsOf t = 0x94 ∧ t.pc = 0x0102 := by decide

/-- V42-14 (R275). -/
theorem test_sbc_word_overflow :
    let t := after (withF 0x01 (((boot [0xED, 0x52] []).setHl 0x8000).setDe 0x0000))
    t.hl = 0x7FFF ∧ flagsOf t = 0x16 ∧ t.pc = 0x0102 := by decide

/-- V42-21 (R273). -/
theorem test_inc_iy_wraps :
    let t := after { boot [0xFD, 0x23] [] with iy := 0xFFFF }
    t.iy = 0x0000 ∧ flagsOf t = 0x00 ∧ t.pc = 0x0102 := by decide

/-- V42-22 (R272). -/
theorem test_dec_de_wraps :
    let t := after (withF 0x00 ((boot [0x1B] []).setDe 0x0000))
    t.de = 0xFFFF ∧ flagsOf t = 0x00 ∧ t.pc = 0x0101 := by decide

/-- V42-26 (R274). -/
theorem test_multiply_bc :
    let t := after (withF 0xD7 ((boot [0xED, 0x4C] []).setBc 0xFFFF))
    t.bc = 0xFE01 ∧ flagsOf t = 0xD7 ∧ t.pc = 0x0102 := by decide

/-- V42-29 (R274). -/
theorem test_multiply_sp :
    let t := after { boot [0xED, 0x7C] [] with sp := 0x0203 }
    t.sp = 0x0006 ∧ flagsOf t = 0x00 ∧ t.pc = 0x0102 := by decide

/-- V43-01 (R296). -/
theorem test_rlca :
    let t := after (withF 0xC4 ((boot [0x07] []).setA 0x81))
    t.main.a = 0x03 ∧ flagsOf t = 0xC5 ∧ t.pc = 0x0101 := by decide

/-- V43-03 (R301). -/
theorem test_rrca :
    let t := after (withF 0x00 ((boot [0x0F] []).setA 0x01))
    t.main.a = 0x80 ∧ flagsOf t = 0x01 ∧ t.pc = 0x0101 := by decide

/-- V43-04 (R294). -/
theorem test_rla_carry_out :
    let t := after (withF 0x00 ((boot [0x17] []).setA 0x80))
    t.main.a = 0x00 ∧ flagsOf t = 0x01 ∧ t.pc = 0x0101 := by decide

/-- V43-07 (R299). -/
theorem test_rra_carry_in :
    let t := after (withF 0x01 ((boot [0x1F] []).setA 0x00))
    t.main.a = 0x80 ∧ flagsOf t = 0x00 ∧ t.pc = 0x0101 := by decide

/-- V43-10 (R295). -/
theorem test_rlc_indexed :
    let t := after { withF 0x00 (boot [0xDD, 0xCB, 0x02, 0x06] [(0x4002, 0x80)]) with ix := 0x4000 }
    flagsOf t = 0x01 ∧ t.pc = 0x0104 ∧ t.mem.read 0x4002 = 0x01 := by decide

/-- V43-12 (R300). -/
theorem test_rrc_indexed :
    let t := after { withF 0x00 (boot [0xFD, 0xCB, 0xFF, 0x0E] [(0x3FFF, 0x01)]) with iy := 0x4000 }
    flagsOf t = 0x81 ∧ t.pc = 0x0104 ∧ t.mem.read 0x3FFF = 0x80 := by decide

/-- V43-14 (R293). -/
theorem test_rl_memory :
    let t := after (withF 0x01 ((boot [0xCB, 0x16] [(0x4000, 0x7F)]).setHl 0x4000))
    flagsOf t = 0x84 ∧ t.pc = 0x0102 ∧ t.mem.read 0x4000 = 0xFF := by decide

/-- V43-15 (R298). -/
theorem test_rr_register :
    let t := after (withF 0x00 ((boot [0xCB, 0x1B] []).setDe 0x0001))
    t.de = 0x0000 ∧ flagsOf t = 0x45 ∧ t.pc = 0x0102 := by decide

/-- V43-18 (R304). -/
theorem test_sla_register :
    let t := after (withF 0x00 ((boot [0xCB, 0x27] []).setA 0xFF))
    t.main.a = 0xFE ∧ flagsOf t = 0x81 ∧ t.pc = 0x0102 := by decide

/-- V43-19 (R305). -/
theorem test_sra_keeps_sign :
    let t := after (withF 0x00 ((boot [0xCB, 0x2D] []).setHl 0x0081))
    t.hl = 0x00C0 ∧ flagsOf t = 0x85 ∧ t.pc = 0x0102 := by decide

/-- V43-22 (R306). -/
theorem test_srl_memory :
    let t := after (withF 0x80 ((boot [0xCB, 0x3E] [(0x4000, 0x01)]).setHl 0x4000))
    flagsOf t = 0x45 ∧ t.pc = 0x0102 ∧ t.mem.read 0x4000 = 0x00 := by decide

/-- V43-23 (R297). -/
theorem test_rld :
    let t := after (withF 0x01 (((boot [0xED, 0x6F] [(0x4000, 0x34)]).setA 0x12).setHl 0x4000))
    t.main.a = 0x13 ∧ flagsOf t = 0x01 ∧ t.pc = 0x0102 ∧ t.mem.read 0x4000 = 0x42 := by decide

/-- V43-24 (R302). -/
theorem test_rrd :
    let t := after (withF 0x00 (((boot [0xED, 0x67] [(0x4000, 0x34)]).setA 0x12).setHl 0x4000))
    t.main.a = 0x14 ∧ flagsOf t = 0x04 ∧ t.pc = 0x0102 ∧ t.mem.read 0x4000 = 0x23 := by decide

/-- V43-26 (R291). -/
theorem test_bit_set :
    let t := after (withF 0x01 ((boot [0xCB, 0x78] []).setBc 0x8000))
    flagsOf t = 0x11 ∧ t.pc = 0x0102 := by decide

/-- V43-29 (R291). -/
theorem test_bit_indexed_clear :
    let t := after { withF 0x00 (boot [0xDD, 0xCB, 0x05, 0x46] [(0x4005, 0x00)]) with ix := 0x4000 }
    flagsOf t = 0x50 ∧ t.pc = 0x0104 := by decide

/-- V43-33 (R303). -/
theorem test_set_indexed :
    let t := after { boot [0xDD, 0xCB, 0xFE, 0xDE] [(0x3FFE, 0x01)] with ix := 0x4000 }
    flagsOf t = 0x00 ∧ t.pc = 0x0104 ∧ t.mem.read 0x3FFE = 0x09 := by decide

/-- V43-36 (R292). -/
theorem test_res_indexed :
    let t := after { boot [0xFD, 0xCB, 0x01, 0xA6] [(0x4001, 0xFF)] with iy := 0x4000 }
    flagsOf t = 0x00 ∧ t.pc = 0x0104 ∧ t.mem.read 0x4001 = 0xEF := by decide

/-- V44-10 (R335). -/
theorem test_jump_parity_odd_not_taken :
    let t := after (withF 0x04 (boot [0xE2, 0x34, 0x12] []))
    t.pc = 0x0103 := by decide

/-- V44-13 (R335). -/
theorem test_jump_minus_taken :
    let t := after (withF 0x80 (boot [0xFA, 0x34, 0x12] []))
    t.pc = 0x1234 := by decide

/-- V44-04 (R334). -/
theorem test_jump_iy :
    let t := after { boot [0xFD, 0xE9] [] with iy := 0x8765 }
    t.pc = 0x8765 := by decide

/-- V44-18 (R336). -/
theorem test_jr_wraps :
    let t := after (bootAt 0xFFFE [0x18, 0x10] [])
    t.pc = 0x0010 := by decide

/-- V44-22 (R337). -/
theorem test_jr_nc_backwards :
    let t := after (withF 0x00 (boot [0x30, 0xF0] []))
    t.pc = 0x00F2 := by decide

/-- V44-25 (R333). -/
theorem test_djnz_falls_through :
    let t := after ((boot [0x10, 0xFE] []).setBc 0x0100)
    t.bc = 0x0000 ∧ t.pc = 0x0102 := by decide

/-- V44-26 (R333). -/
theorem test_djnz_wraps :
    let t := after ((boot [0x10, 0x10] []).setBc 0x0000)
    t.bc = 0xFF00 ∧ t.pc = 0x0112 := by decide

/-- V44-28 (R331). -/
theorem test_call_wraps :
    let t := after { boot [0xCD, 0x34, 0x12] [] with sp := 0x0000 }
    t.sp = 0xFFFE ∧ t.pc = 0x1234 ∧ t.mem.read 0xFFFE = 0x03 ∧ t.mem.read 0xFFFF = 0x01 := by decide

/-- V44-31 (R332). -/
theorem test_call_not_taken :
    let t := after { withF 0x01 (boot [0xD4, 0x34, 0x12] []) with sp := 0x8000 }
    t.pc = 0x0103 := by decide

/-- V44-36 (R339). -/
theorem test_ret_pe_taken :
    let t := after { withF 0x04 (boot [0xE8] [(0x7FFE, 0x03), (0x7FFF, 0x01)]) with sp := 0x7FFE }
    t.sp = 0x8000 ∧ t.pc = 0x0103 := by decide

/-- V44-38 (R340). -/
theorem test_reti_pops :
    let t := after { boot [0xED, 0x4D] [(0x7FFE, 0x03), (0x7FFF, 0x01)] with sp := 0x7FFE, iff1 := false, iff2 := true }
    t.sp = 0x8000 ∧ t.pc = 0x0103 := by decide

/-- V44-39 (R341). -/
theorem test_retn_restores_iff1 :
    let t := after { boot [0xED, 0x45] [(0x7FFE, 0x03), (0x7FFF, 0x01)] with sp := 0x7FFE, iff1 := false, iff2 := true }
    t.sp = 0x8000 ∧ t.iff1 = true ∧ t.pc = 0x0103 := by decide

/-- V44-47 (R342). -/
theorem test_rst_30 :
    let t := after { boot [0xF7] [] with sp := 0x8000 }
    t.sp = 0x7FFE ∧ t.pc = 0x0030 ∧ t.mem.read 0x7FFE = 0x01 ∧ t.mem.read 0x7FFF = 0x01 := by decide

/-- V45-03 (R367). -/
theorem test_ldi_wraps :
    let t := after (withF 0x00 ((((boot [0xED, 0xA0] [(0xFFFF, 0x11)]).setHl 0xFFFF).setDe 0xFFFF).setBc 0x0000))
    t.bc = 0xFFFF ∧ t.de = 0x0000 ∧ t.hl = 0x0000 ∧ flagsOf t = 0x04 ∧ t.pc = 0x0102 := by decide

/-- V45-05 (R365). -/
theorem test_ldd_wraps :
    let t := after (withF 0x00 ((((boot [0xED, 0xA8] [(0x0000, 0xCC)]).setHl 0x0000).setDe 0x0000).setBc 0x0002))
    t.bc = 0x0001 ∧ t.de = 0xFFFF ∧ t.hl = 0xFFFF ∧ flagsOf t = 0x04 ∧ t.pc = 0x0102 := by decide

/-- V45-06 (R368). -/
theorem test_ldir_first_iteration :
    let t := after (withF 0x00 ((((boot [0xED, 0xB0] [(0x4000, 0x01), (0x4001, 0x02), (0x4002, 0x03)]).setHl 0x4000).setDe 0x5000).setBc 0x0003))
    t.bc = 0x0002 ∧ t.de = 0x5001 ∧ t.hl = 0x4001 ∧ flagsOf t = 0x04 ∧ t.pc = 0x0100 ∧ t.mem.read 0x5000 = 0x01 := by decide

/-- V45-10 (R363). -/
theorem test_cpi_match :
    let t := after (withF 0x01 ((((boot [0xED, 0xA1] [(0x4000, 0x42)]).setA 0x42).setHl 0x4000).setBc 0x0002))
    t.bc = 0x0001 ∧ t.hl = 0x4001 ∧ flagsOf t = 0x47 ∧ t.pc = 0x0102 := by decide

/-- V45-12 (R361). -/
theorem test_cpd_down :
    let t := after (withF 0x00 ((((boot [0xED, 0xA9] [(0x4000, 0x01)]).setA 0x00).setHl 0x4000).setBc 0x0005))
    t.bc = 0x0004 ∧ t.hl = 0x3FFF ∧ flagsOf t = 0x96 ∧ t.pc = 0x0102 := by decide

/-- V45-15 (R364). -/
theorem test_cpir_found_on_last_byte :
    let t := after (withF 0x00 ((((boot [0xED, 0xB1] [(0x4000, 0x01)]).setA 0x01).setHl 0x4000).setBc 0x0001))
    t.bc = 0x0000 ∧ t.hl = 0x4001 ∧ flagsOf t = 0x42 ∧ t.pc = 0x0102 := by decide

/-- V46-01 (R381). -/
theorem test_in_a_port :
    let t := after { withF 0x00 ((boot [0xDB, 0x34] []).setA 0x12) with ioIn := [0x80] }
    t.main.a = 0x80 ∧ flagsOf t = 0x00 ∧ t.pc = 0x0102 ∧ t.trace = [.ioRead 0x1234 0x80] := by decide

/-- V46-02 (R382). -/
theorem test_in_b_port :
    let t := after { withF 0x01 ((boot [0xED, 0x40] []).setBc 0x1234) with ioIn := [0x00] }
    t.bc = 0x0034 ∧ flagsOf t = 0x45 ∧ t.pc = 0x0102 ∧ t.trace = [.ioRead 0x1234 0x00] := by decide

/-- V46-05 (R383). -/
theorem test_in0_port :
    let t := after { withF 0x01 (boot [0xED, 0x00, 0x34] []) with ioIn := [0xFF] }
    t.bc = 0xFF00 ∧ flagsOf t = 0x85 ∧ t.pc = 0x0103 ∧ t.trace = [.ioRead 0x0034 0xFF] := by decide

/-- V46-07 (R394). -/
theorem test_out_a_port :
    let t := after ((boot [0xD3, 0x34] []).setA 0x12)
    flagsOf t = 0x00 ∧ t.pc = 0x0102 ∧ t.trace = [.ioWrite 0x1234 0x12] := by decide

/-- V46-08 (R395). -/
theorem test_out_d_port :
    let t := after (((boot [0xED, 0x51] []).setBc 0x1234).setDe 0x5600)
    flagsOf t = 0x00 ∧ t.pc = 0x0102 ∧ t.trace = [.ioWrite 0x1234 0x56] := by decide

/-- V46-10 (R396). -/
theorem test_out0_port :
    let t := after ((boot [0xED, 0x19, 0x34] []).setDe 0x0077)
    flagsOf t = 0x00 ∧ t.pc = 0x0103 ∧ t.trace = [.ioWrite 0x0034 0x77] := by decide

/-- V46-11 (R399). -/
theorem test_tstio_port :
    let t := after { withF 0x01 ((boot [0xED, 0x74, 0x0F] []).setBc 0xFF10) with ioIn := [0xF0] }
    flagsOf t = 0x54 ∧ t.pc = 0x0103 ∧ t.trace = [.ioRead 0x0010 0xF0] := by decide

/-- V46-13 (R386). -/
theorem test_ini_old_b :
    let t := after { withF 0x00 (((boot [0xED, 0xA2] []).setBc 0x0210).setHl 0x4000) with ioIn := [0x5A] }
    t.bc = 0x0110 ∧ t.hl = 0x4001 ∧ flagsOf t = 0x02 ∧ t.pc = 0x0102 ∧ t.mem.read 0x4000 = 0x5A ∧ t.trace = [.ioRead 0x0210 0x5A] := by decide

/-- V46-15 (R384). -/
theorem test_ind_last :
    let t := after { withF 0x00 (((boot [0xED, 0xAA] []).setBc 0x0110).setHl 0x4000) with ioIn := [0x5A] }
    t.bc = 0x0010 ∧ t.hl = 0x3FFF ∧ flagsOf t = 0x42 ∧ t.pc = 0x0102 ∧ t.mem.read 0x4000 = 0x5A ∧ t.trace = [.ioRead 0x0110 0x5A] := by decide

/-- V46-18 (R398). -/
theorem test_outi_flags :
    let t := after (withF 0x00 (((boot [0xED, 0xA3] [(0x4000, 0x77)]).setBc 0x0210).setHl 0x4000))
    t.bc = 0x0110 ∧ t.hl = 0x4001 ∧ flagsOf t = 0x00 ∧ t.pc = 0x0102 ∧ t.trace = [.ioWrite 0x0210 0x77] := by decide

/-- V46-19 (R398). -/
theorem test_outi_last :
    let t := after (withF 0x00 (((boot [0xED, 0xA3] [(0x4000, 0x77)]).setBc 0x0110).setHl 0x4000))
    t.bc = 0x0010 ∧ t.hl = 0x4001 ∧ flagsOf t = 0x04 ∧ t.pc = 0x0102 ∧ t.trace = [.ioWrite 0x0110 0x77] := by decide

/-- V46-20 (R397). -/
theorem test_outd_last :
    let t := after (withF 0x00 (((boot [0xED, 0xAB] [(0x4000, 0x77)]).setBc 0x0110).setHl 0x4000))
    t.bc = 0x0010 ∧ t.hl = 0x3FFF ∧ flagsOf t = 0x42 ∧ t.pc = 0x0102 ∧ t.trace = [.ioWrite 0x0110 0x77] := by decide

/-- V46-23 (R391). -/
theorem test_otim_n_from_data :
    let t := after (withF 0x00 (((boot [0xED, 0x83] [(0x4000, 0x80)]).setBc 0x0210).setHl 0x4000))
    t.bc = 0x0111 ∧ t.hl = 0x4001 ∧ flagsOf t = 0x02 ∧ t.pc = 0x0102 ∧ t.trace = [.ioWrite 0x0010 0x80] := by decide

/-- V46-24 (R391). -/
theorem test_otim_last :
    let t := after (withF 0x00 (((boot [0xED, 0x83] [(0x4000, 0x01)]).setBc 0x0110).setHl 0x4000))
    t.bc = 0x0011 ∧ t.hl = 0x4001 ∧ flagsOf t = 0x44 ∧ t.pc = 0x0102 ∧ t.trace = [.ioWrite 0x0010 0x01] := by decide

/-- V46-25 (R388). -/
theorem test_otdm_down :
    let t := after (withF 0x00 (((boot [0xED, 0x8B] [(0x4000, 0x01)]).setBc 0x0210).setHl 0x4000))
    t.bc = 0x010F ∧ t.hl = 0x3FFF ∧ flagsOf t = 0x00 ∧ t.pc = 0x0102 ∧ t.trace = [.ioWrite 0x0010 0x01] := by decide

/-- V47-02 (R420). -/
theorem test_di :
    let t := after { boot [0xF3] [] with iff1 := true, iff2 := true }
    t.iff1 = false ∧ t.iff2 = false ∧ t.pc = 0x0101 := by decide

/-- V47-03 (R421). -/
theorem test_ei :
    let t := after { boot [0xFB] [] with iff1 := false, iff2 := false }
    t.iff1 = true ∧ t.iff2 = true ∧ t.pc = 0x0101 := by decide

/-- V47-06 (R423). -/
theorem test_im_2 :
    let t := after { boot [0xED, 0x5E] [] with im := .im0 }
    t.im = .im2 ∧ t.pc = 0x0102 := by decide

/-- V47-07 (R422). -/
theorem test_halt :
    let t := after (boot [0x76] [])
    t.runState = .halt ∧ t.pc = 0x0101 := by decide

/-- V47-09 (R425). -/
theorem test_slp :
    let t := after (boot [0xED, 0x76] [])
    t.runState = .sleep ∧ t.pc = 0x0102 := by decide

/-- Sixteen bytes counting up from `v` at `a`. -/
def countUp (a v : Nat) : List (Nat × Nat) := (List.range 16).map (fun k => (a + k, v + k))

/-- Sixteen translation registers counting up from `v`. -/
def mapFrom (v : Word) : Vector Word 16 := Vector.ofFn (fun k => v + BitVec.ofNat 16 k.val)

/-- The board inhibits the physical addresses of `x`, for writes or for execution. -/
def guarded (x w : List Region) (s : State) : State := { s with pins := { s.pins with execInh := x, wrInh := w } }

/-- V48-01 (R441). -/
theorem test_ldm_hl_mmu :
    let t := after ((boot [0xED, 0x82] []).setHl 0x4000)
    (List.range 16).map (fun k => (t.mem.read (0x4000 + k)).toNat) = List.range 16 ∧ t.hl = 0x4010 ∧ t.pc = 0x0102 ∧
      t.noSample = true := by decide

/-- V48-02 (R441). -/
theorem test_ldm_hl_mmuh :
    let t := after ((boot [0xED, 0x92] [(0x4000, 0xFF), (0x400F, 0xFF)]).setHl 0x4000)
    t.mem.read 0x4000 = 0x00 ∧ t.mem.read 0x400F = 0x00 ∧ t.hl = 0x4010 := by decide

/-- V48-04 (R442). -/
theorem test_ldm_mmu_hl :
    let t := after ((boot [0xED, 0x80] (countUp 0x5000 0x10)).setHl 0x5000)
    t.mmu.buffer[(3 : Fin 16)] = 0x0013 ∧ t.mmu.active = identityMap ∧ t.hl = 0x5010 ∧ t.noSample = true := by decide

/-- V48-05 (R442). -/
theorem test_ldm_mmuh_hl :
    let s := (boot [0xED, 0x90] ((countUp 0x5010 0).map (fun x => (x.1, 0x02)))).setHl 0x5010
    let t := after { s with mmu := ⟨identityMap, mapFrom 0x0010⟩ }
    t.mmu.buffer[(7 : Fin 16)] = 0x0217 ∧ t.mmu.active = identityMap ∧ t.hl = 0x5020 := by decide

/-- V48-06 (R443). -/
theorem test_ldms :
    let t := after ((boot [0xED, 0x88] ((0x5000, 0x00) :: (countUp 0x5000 0x10).tail)).setHl 0x5000)
    t.mmu.active[(0 : Fin 16)] = 0x0000 ∧ t.mmu.active[(15 : Fin 16)] = 0x001F ∧ t.mmu.buffer = identityMap ∧ t.pc = 0x0102 := by decide

/-- V48-07 (R444). -/
theorem test_swap :
    let other := mapFrom 0x0210
    let t := after { boot [0xED, 0x7F] [] with mmu := ⟨identityMap, other⟩ }
    t.mmu = ⟨other, identityMap⟩ ∧ t.pc = 0x0102 ∧ t.noSample = false := by decide

/-- V48-09 (R95). -/
theorem test_translated_load :
    let s := boot [0x3A, 0x56, 0x34] [(0x0213456, 0x99), (0x0003456, 0x11)]
    let t := after { s with mmu := ⟨identityMap.set 3 0x0213, identityMap⟩ }
    t.main.a = 0x99 ∧ t.pc = 0x0103 := by decide

/-- V48-11 (R445). -/
theorem test_wdarm :
    let t := after (boot [0xED, 0x6E] [])
    t.wdt.arm = 256 ∧ t.pc = 0x0102 := by decide

/-- V48-13 and V48-14 (R446). -/
theorem test_wdres :
    let armed := boot [0xED, 0x7E] []
    let t := after { armed with wdt := ⟨false, 77, 0, 100⟩, pins := { armed.pins with wdtLim := 0x01 } }
    t.wdt = ⟨true, 0, 0x01, 100⟩ ∧ (after { armed with wdt := ⟨true, 77, 0, 0⟩ }).wdt = ⟨true, 77, 0, 0⟩ := by decide

/-- V48-15 (R447, R561, R566, R567). -/
theorem test_ldm_hl_sys :
    let s := (boot [0xED, 0x9A] []).setHl 0x6000
    let t := after { s with pins := { s.pins with extStat := 0xA5, rtiDefault := 0x03D090 } }
    [0, 1, 0xA, 0xB, 0xE, 0xF].map (fun k => t.mem.read (0x6000 + k)) = [0x10, 0x00, 0x00, 0x00, 0x01, 0xA5] ∧
      t.hl = 0x6010 ∧ t.sys.rstPwron = false ∧ t.noSample = true ∧ t.trace = [.extStatRd] := by decide

/-- V48-17 (R440, R141): the MPU instructions are illegal in the CPU variant. -/
theorem test_mpu_instruction_in_cpu :
    let t := after { asCpu (boot [0xED, 0x82] []) with sp := 0x8000 }
    t.mem.read 0x7FFF = 0x01 ∧ t.mem.read 0x7FFE = 0x01 ∧ t.sp = 0x7FFE ∧ t.pc = 0x0000 ∧ t.trace = [.inst2Trap] := by decide

/-- V60-01 (R505). -/
theorem test_illegal_second_byte :
    let t := after { boot [0xED, 0x02] [] with sp := 0x8000, iff1 := true, iff2 := true }
    t.mem.read 0x7FFF = 0x01 ∧ t.mem.read 0x7FFE = 0x01 ∧ t.sp = 0x7FFE ∧ t.pc = 0x0000 ∧ t.iff1 = true ∧ t.iff2 = true ∧
      t.sys.trapI2 = true ∧ t.sys.trapLa = 0x0100 := by decide

/-- V60-11 (R506). -/
theorem test_illegal_third_byte :
    let t := after { bootAt 0x0200 [0xDD, 0xCB, 0x05, 0x00] [(0x4005, 0x81)] with sp := 0x8000, ix := 0x4000 }
    t.mem.read 0x7FFF = 0x02 ∧ t.mem.read 0x7FFE = 0x02 ∧ t.sp = 0x7FFE ∧ t.pc = 0x0000 ∧ t.mem.read 0x4005 = 0x81 ∧
      t.sys.trapI3 = true ∧ t.sys.trapLa = 0x0202 := by decide

/-- V61-01 (R510). -/
theorem test_execute_inhibit :
    let t := after (guarded [⟨0x8000, 0x8FFF⟩] [] { bootAt 0x8000 [0x3C] [] with sp := 0x7000 })
    t.main.a = 0 ∧ t.mem.read 0x6FFF = 0x80 ∧ t.mem.read 0x6FFE = 0x01 ∧ t.pc = 0x0000 ∧ t.sys.trapXp = true ∧
      t.sys.trapLa = 0x8000 ∧ t.sys.trapPa = 0x0008 ∧ t.sys.rstFatal = false := by decide

/-- V61-03 (R510, R512): in Page 0 it is a Fatal Error and the next step is a user reset. -/
theorem test_execute_inhibit_page0 :
    let t := after (guarded [⟨0x0000, 0x0FFF⟩] [] { boot [0x00] [] with sp := 0x8000 })
    t.mem.read 0x7FFF = 0x01 ∧ t.mem.read 0x7FFE = 0x01 ∧ t.sys.rstFatal = true ∧ t.fatalDetect = true ∧ t.resetReq = true ∧
      (after t).resetReq = false := by decide

/-- V61-04 (R511). -/
theorem test_write_protect :
    let s := guarded [] [⟨0x5000, 0x5FFF⟩] { ((boot [0x77, 0x3C] [(0x5000, 0xEE)]).setHl 0x5000).setA 0x12 with sp := 0x8000 }
    let t := after s
    let u := after t
    t.mem.read 0x5000 = 0xEE ∧ t.pc = 0x0101 ∧ t.sys.trapWp = true ∧ t.sys.trapLa = 0x5000 ∧ t.wpPending = true ∧
      u.mem.read 0x7FFF = 0x01 ∧ u.mem.read 0x7FFE = 0x02 ∧ u.pc = 0x0000 ∧ u.main.a = 0x12 ∧ u.wpPending = false := by decide

/-- V61-07 (R512): an inhibited stack write is a Fatal Error. -/
theorem test_write_protect_stack :
    let t := after (guarded [] [⟨0x7000, 0x7FFF⟩] { (boot [0xC5] []).setBc 0x1234 with sp := 0x8000 })
    t.mem.read 0x7FFF = 0 ∧ t.sp = 0x7FFE ∧ t.pc = 0x0101 ∧ t.sys.trapWp = true ∧ t.sys.trapLa = 0x7FFE ∧ t.sys.rstFatal = true ∧
      t.resetReq = true := by decide

/-- V62-01 (R530). -/
theorem test_nmi :
    let t := after { bootAt 0x1234 [] [] with sp := 0x8000, iff1 := true, iff2 := true, nmiPending := true }
    t.mem.read 0x7FFF = 0x12 ∧ t.mem.read 0x7FFE = 0x34 ∧ t.pc = 0x0066 ∧ t.iff1 = false ∧ t.iff2 = true ∧ t.nmiPending = false := by decide

/-- The CPU variant at 0x0150 with a maskable request, the vector `v` and the interrupts enabled (V62-05). -/
def requested (im : IntMode) (v : Byte) (data : List (Nat × Nat)) : State :=
  let s := asCpu (bootAt 0x0150 [] data)
  { s with sp := 0x8000, iff1 := true, iff2 := true, im := im, pins := { s.pins with intReq := true, ivecDataIn := v } }

/-- V62-05 and V62-06 (R533). -/
theorem test_interrupt_mode_0 :
    let t := after (requested .im0 0xD7 [])
    t.mem.read 0x7FFF = 0x01 ∧ t.mem.read 0x7FFE = 0x50 ∧ t.pc = 0x0010 ∧ t.iff1 = false ∧ t.iff2 = false ∧
      (after (requested .im0 0x12 [])).pc = 0x0010 := by decide

/-- V62-07 (R534) and V62-08 (R535). -/
theorem test_interrupt_modes_1_and_2 :
    (after (requested .im1 0x00 [])).pc = 0x0038 ∧
      (after { requested .im2 0x06 [(0x4006, 0x00), (0x4007, 0x20)] with i := 0x40 }).pc = 0x2000 := by decide

/-- V62-15, its third step (R425): a masked request ends the Sleep state and nothing is pushed. -/
theorem test_sleep_wakes :
    let s := asCpu { bootAt 0x0102 [0x3C] [] with runState := .sleep }
    let t := after { s with pins := { s.pins with intReq := true } }
    t.runState = .run ∧ t.main.a = 0x01 ∧ t.pc = 0x0103 ∧ t.sp = s.sp := by decide

/-- V62-20 (R544). -/
theorem test_reti_clears_service_bit :
    let t := after { boot [0xED, 0x4D] [(0x8000, 0x78), (0x8001, 0x56)] with sp := 0x8000, irq := ⟨0, 0x000A⟩ }
    t.pc = 0x5678 ∧ t.sp = 0x8002 ∧ t.irq.ius = 0x0008 := by decide

/-- The machine of V63-08 after a rising edge on input 3. -/
def edge3 : State :=
  let s := bootAt 0x0150 [] [(0x8006, 0x00), (0x8007, 0x30)]
  let p := { s.pins with intReqEn := 0xFFFF }
  let q := { p with intReqBus := 0x0008 }
  { s with sp := 0x8000, i := 0x80, im := .im2, iff1 := true, pins := p, script := [⟨[.pins q], none⟩] }

/-- V63-08 (R547): the edge is latched and acknowledged, and the service bit is set. -/
theorem test_controller_acknowledge :
    let t := after edge3
    t.irq = ⟨0, 0x0008⟩ ∧ t.pc = 0x3000 ∧ t.mem.read 0x7FFF = 0x01 ∧ t.mem.read 0x7FFE = 0x50 ∧ t.iff1 = false ∧
      t.trace = [.iackTran, .intAckBus 0x0008] := by decide

/-- V64-01 (R600). -/
theorem test_user_reset :
    let s := ((boot [] []).setBc 0x3456).setA 0x12
    let t := after { s with resetReq := true, pc := 0x1234, ix := 0x789A, im := .im2, iff1 := true, runState := .halt }
    t.pc = 0 ∧ t.im = .im0 ∧ t.iff1 = false ∧ t.runState = .run ∧ t.main.a = 0x12 ∧ t.bc = 0x3456 ∧ t.ix = 0x789A := by decide

/-- V64-04 (R578): the Watch-Dog times out. -/
theorem test_watch_dog_times_out :
    let t := after { boot [] [] with wdt := ⟨true, 0, 0, 0⟩, script := [⟨[.clocks 1048576], none⟩] }
    t.sys.rstWdt = true ∧ t.wdt.enabled = false ∧ t.pc = 0x0000 ∧ Signal.wdtTimeout ∈ t.trace := by decide

/-- The S10 table: at 10 MHz a 25 ms period is 0x03D090 clocks, and the generator pulses once in that time (R580). -/
theorem test_rti_period :
    let s := boot [0x00] []
    let t := after { s with pins := { s.pins with rtiDefault := 0x03D090 }, rti := RtiGen.start 0x03D090, script := [⟨[.clocks 250000], none⟩] }
    t.trace = [.rtiPulse] ∧ t.rti.count = 0x03D090 := by decide

/-- A second edge of `ref_clock` after `n` clocks, with the divisor `d`. -/
def secondEdge (n d : Nat) : State :=
  let s := boot [] []
  let p := { s.pins with refClock := true, rtiDivisor := BitVec.ofNat 7 d }
  { s with pins := p, rti := { RtiGen.start 0 with edges := 1, since := n } }.refClockFiltered

/-- Three rows of the S10 table: 500 mS by 20 and 1 S by 5 at 10 MHz, and 2 S by 125 at 30 MHz (R581, R582). -/
theorem test_rti_divider :
    (secondEdge 5000000 20).rti.count = 250000 ∧ (secondEdge 10000000 5).rti.count = 2000000 ∧
      (secondEdge 60000000 125).rti.count = 480000 ∧ (secondEdge 60000000 125).rti.synced = true := by decide

/-- The filter of R581: a level of `ref_clock` that stands for ten clocks is not passed on, one of eleven is. -/
theorem test_ref_clock_filter :
    let s := boot [0x00] []
    let t := fun n => after { s with pins := { s.pins with refClock := true }, script := [⟨[.clocks n], none⟩] }
    (t 10).rti.edges = 0 ∧ (t 10).rti.filtered = false ∧ (t 11).rti.edges = 1 ∧ (t 11).rti.filtered = true := by decide

/-- R422 (d), R425, R573: a Wait request is ignored while halted. -/
theorem test_wait_ignored_while_halted :
    let s := boot [0x00] []
    let t := fun r => after { s with
      runState := r, pins := { s.pins with memWaitLim := 5 }, script := [⟨[.waitTimeout .mem], none⟩] }
    (t .halt).trace = [] ∧ (t .sleep).trace = [] ∧ (t .run).trace = [.waitTimeout] ∧ (t .run).sys.waitTo = 0x01 := by decide

/-- R571 and R616: a master that never releases the bus is stopped by the limiter, and the core then runs an instruction. -/
theorem test_limiter_lets_the_core_run :
    let s := boot [0x3C] []
    let g : DmaRequest := ⟨0x01, Vector.replicate 8 [], 16⟩
    let t := after { s with pins := { s.pins with drqActLim := 1 }, script := [⟨[], some g⟩, ⟨[], some g⟩] }
    t.pc = 0x0100 ∧ t.dma.dus = 0 ∧ t.sys.drqTo = 0x01 ∧ (after t).main.a = 0x01 ∧ (after t).pc = 0x0101 := by decide

/-- R612: NOP has no cycle to prefetch in, and a jump to the next address discards what was prefetched. -/
theorem test_no_prefetch :
    let s := fun bytes => let u := boot bytes []
      after { u with pins := { u.pins with prefetchEn := true } }
    (s [0x00, 0xED]).prefetched = none ∧ (s [0xC3, 0x03, 0x01, 0xED]).prefetched = none := by decide

/-- withFetchWord places LD A,n where the step from reset fetches it. -/
theorem test_fetch_word :
    let t := after (State.reset.withFetchWord 16 0b0011111001011010)
    t.main.a = 0x5A ∧ t.pc = 0x0002 := by decide

/-! ## Something meets the hypotheses of each statement -/

theorem test_witness_encodedInstructionsDecodeToThemselves :
    Instr.wellFormed .mpu (.ldXdN .iy 0x80 0xFF) = true ∧ encode (.ldXdN .iy 0x80 0xFF) <+: [0xFD, 0x36, 0x80, 0xFF] ∧
      Instr.wellFormed .cpu .nop = true ∧ encode .nop <+: [0x00, 0xFF, 0xFF, 0xFF] := by decide

theorem test_witness_decodingAnswersExactlyTheEncodings :
    decode .cpu 0x3E 0xFF 0 0 = .instr (.ldRN .a 0xFF) 2 ∧ decode .cpu 0xED 0x9A 0 0 = .illegal2 ∧
      decode .mpu 0xFD 0xCB 0x80 0x36 = .illegal3 .iy 0x80 := by decide

/-- Every hypothesis of `Undisturbed` at once. -/
theorem undisturbed_of (s : State) (h : (s.script = [] ∧ s.resetReq = false) ∧ s.upset = false ∧ s.dma.dus = 0 ∧ s.dma.coreTurn = false) :
    s.Undisturbed :=
  ⟨h.1.1, h.1.2, h.2.1, h.2.2.1, h.2.2.2⟩

/-- Every hypothesis of `Sequential` at once. -/
theorem sequential_of (s : State) (u : s.Undisturbed)
    (h : (s.noSample = false ∧ s.nmiPending = false) ∧ (s.intReq && s.iff1) = false ∧ s.runState = .run) : s.Sequential :=
  ⟨u, h.1.1, h.1.2, h.2.1, h.2.2⟩

/-- Every hypothesis of `MayFetch` at once. -/
theorem mayFetch_of (s : State)
    (h : (s.wpPending = false ∧ s.staleBuffer = false) ∧ s.staleRepeat = false ∧ s.execInh (s.translate s.pc) = false) : s.MayFetch :=
  ⟨h.1.1, h.1.2, h.2.1, h.2.2⟩

/-- LDI at 0x0100 followed by a prefix byte, with prefetching enabled; `op` replaces its second byte. -/
def prefetching (op : Nat) : State :=
  let s := ((boot [0xED, op, 0xCB, 0x00] []).setBc 2).setHl 0x4000
  { s.setDe 0x5000 with pins := { s.pins with prefetchEn := true } }

/-- The hypotheses hold, and the step fills the first buffer. -/
theorem test_witness_stepRunsTheDecodedInstruction :
    (prefetching 0xA0).Sequential ∧ (prefetching 0xA0).MayFetch ∧ (prefetching 0xA0).fetched = .instr .ldi 2 ∧
      (after (prefetching 0xA0)).prefetched = some 0xCB ∧ (after (prefetching 0xA0)).repeating = none :=
  ⟨sequential_of _ (undisturbed_of _ (by decide)) (by decide), mayFetch_of _ (by decide), by decide, by decide, by decide⟩

/-- The hypotheses hold for LDIR, and the step fills the second buffer. -/
theorem test_witness_stepRunsTheDecodedInstruction_repeat :
    (prefetching 0xB0).Sequential ∧ (prefetching 0xB0).MayFetch ∧ (prefetching 0xB0).fetched = .instr .ldir 2 ∧
      (after (prefetching 0xB0)).prefetched = none ∧ (after (prefetching 0xB0)).repeating = some (0xED, 0xB0) :=
  ⟨sequential_of _ (undisturbed_of _ (by decide)) (by decide), mayFetch_of _ (by decide), by decide, by decide, by decide⟩

/-- A held-off boundary with a bus request. -/
def heldOff : State := { boot [0x00] [] with noSample := true, script := [⟨[], some ⟨0x01, Vector.replicate 8 [], 1⟩⟩] }

/-- Every hypothesis of `HeldOff` at once, for a tick that only asks for the bus. -/
theorem heldOff_of (s : State) (d : Option DmaRequest) (h : s.script = [⟨[], d⟩])
    (hs : (s.isMpu = true ∧ s.noSample = true) ∧ s.resetReq = false ∧ s.upset = false ∧ s.runState = .run) : s.HeldOff :=
  ⟨hs.1.1, hs.1.2, ⟨d, h⟩, hs.2.1, hs.2.2.1, hs.2.2.2⟩

theorem test_witness_heldOffBoundaryRunsTheNextInstruction : heldOff.HeldOff ∧ heldOff.MayFetch :=
  ⟨heldOff_of _ _ rfl (by decide), mayFetch_of _ (by decide)⟩

/-- A stopped core of the CPU variant, the request at the level `q`. -/
def stopped (r : RunState) (q : Bool) : State :=
  let s := asCpu (boot [0x3C] [])
  { s with runState := r, pins := { s.pins with intReq := q } }

theorem test_witness_stoppedCoreWaitsForARequest_halt :
    (stopped .halt true).Undisturbed ∧ ((stopped .halt true).noSample = false ∧ (stopped .halt true).nmiPending = false) ∧
      ((stopped .halt true).intReq && (stopped .halt true).iff1) = false ∧ (stopped .halt true).runState = .halt :=
  ⟨undisturbed_of _ (by decide), by decide, by decide, by decide⟩

theorem test_witness_stoppedCoreWaitsForARequest_sleep :
    (stopped .sleep false).Undisturbed ∧ ((stopped .sleep false).noSample = false ∧ (stopped .sleep false).nmiPending = false) ∧
      ((stopped .sleep false).intReq && (stopped .sleep false).iff1) = false ∧ (stopped .sleep false).runState = .sleep ∧
      (stopped .sleep false).intReq = false :=
  ⟨undisturbed_of _ (by decide), by decide, by decide, by decide, by decide⟩

theorem test_witness_stoppedCoreWaitsForARequest_wake :
    (stopped .sleep true).Undisturbed ∧ ((stopped .sleep true).noSample = false ∧ (stopped .sleep true).nmiPending = false) ∧
      ((stopped .sleep true).intReq && (stopped .sleep true).iff1) = false ∧ (stopped .sleep true).runState = .sleep ∧
      (stopped .sleep true).intReq = true ∧ (stopped .sleep true).reqSeen = false ∧ (stopped .sleep true).MayFetch :=
  ⟨undisturbed_of _ (by decide), by decide, by decide, by decide, by decide, by decide, mayFetch_of _ (by decide)⟩

/-- A core that has gone to sleep with the request active, for both readings of the wake event. -/
def sleptOn (level : Bool) : State :=
  let s := stopped .sleep true
  { s with reqSeen := true, params := { s.params with slpWakeLevel := level } }

theorem test_witness_stoppedCoreWaitsForARequest_seen :
    (sleptOn true).Undisturbed ∧ ((sleptOn true).noSample = false ∧ (sleptOn true).nmiPending = false) ∧
      ((sleptOn true).intReq && (sleptOn true).iff1) = false ∧ (sleptOn true).MayFetch ∧
      ((sleptOn true).intReq = true ∧ (sleptOn true).reqSeen = true ∧ (sleptOn true).params.slpWakeLevel = true) ∧
      (sleptOn false).Undisturbed ∧ (sleptOn false).params.slpWakeLevel = false ∧
      (after (sleptOn true)).main.a = 0x01 ∧ (after (sleptOn false)).main.a = 0x00 :=
  ⟨undisturbed_of _ (by decide), by decide, by decide, mayFetch_of _ (by decide), by decide, undisturbed_of _ (by decide), by decide,
    by decide, by decide⟩

theorem test_witness_userResetTakesTheStep :
    let s := { State.reset with resetReq := true, nmiPending := true, runState := .halt }
    s.script = [] ∧ s.resetReq = true ∧ s.isMpu = true ∧ (asCpu s).resetReq = true := by decide

/-- A state with something in memory and in the first buffer meets the invariant, and its step goes on. -/
theorem test_witness_everyStepKeepsTheInvariant :
    let s := { boot [0xED, 0x44] [] with prefetched := some 0xED }
    s.Inv ∧ step s = .next (after s) :=
  ⟨⟨by decide, by decide, by decide, by decide, by decide, fun _ h => (by cases h; decide), fun _ _ h => (nomatch h), by decide, by decide,
    by decide, by decide, by decide, by decide, by decide, by decide⟩, rfl⟩

/-- A CPU variant that is about to be upset meets the invariant, and the step stops. -/
theorem test_witness_stepStopsOnlyAtUndefinedHazards_fault :
    let s := { asCpu (boot [] []) with script := [⟨[.faultDetect 0], none⟩] }
    s.Inv ∧ step s = .fault .mainStateUpset :=
  ⟨⟨by decide, by decide, by decide, by decide, by decide, fun _ h => (nomatch h), fun _ _ h => (nomatch h), by decide, by decide,
    by decide, by decide, by decide, by decide, by decide, by decide⟩, rfl⟩

/-- A stale buffered byte. -/
theorem test_witness_stepStopsOnlyAtUndefinedHazards_buffer :
    let s := { boot [0x00] [] with prefetched := some 0xED }
    s.Inv ∧ step s = .refused .prefetchHazard :=
  ⟨⟨by decide, by decide, by decide, by decide, by decide, fun _ h => (by cases h; decide), fun _ _ h => (nomatch h), by decide, by decide,
    by decide, by decide, by decide, by decide, by decide, by decide⟩, rfl⟩

/-- A repeating instruction whose second byte has changed. -/
theorem test_witness_stepStopsOnlyAtUndefinedHazards_repeat :
    let s := { boot [0xED, 0x00] [] with repeating := some (0xED, 0xB0) }
    s.Inv ∧ step s = .refused .repeatHazard :=
  ⟨⟨by decide, by decide, by decide, by decide, by decide, fun _ h => (nomatch h), fun _ _ h => (by cases h; rfl), by decide, by decide,
    by decide, by decide, by decide, by decide, by decide, by decide⟩, rfl⟩

/-- Both variants, at the two ends of the address space. -/
theorem test_witness_translationLooksUpThePage :
    let s := { State.reset with mmu := ⟨(identityMap.set 0 0x8001).set 15 0xFFFF, identityMap⟩ }
    s.params.variant = .mpu ∧ s.translate 0x0000 = 0x8001000 ∧ s.translate 0xFFFF = 0xFFFFFFF ∧
      (asCpu s).params.variant = .cpu ∧ (asCpu s).translate 0xFFFF = 0x000FFFF := by decide

/-- Every row of the DAA table applies to some flags and some A: the lowest corner of its ranges. -/
theorem test_witness_decimalAdjustFollowsTheTable :
    daaTable.all (fun row =>
      row.applies { Flags.zero with n := row.n, c := row.c, h := row.h } (BitVec.ofNat 8 (16 * row.highFrom + row.lowFrom))) = true := by
  decide

/-- 99 + 99 + 1 and 0 - 99 - 1: both runs take both steps. -/
theorem test_witness_decimalAdjustGivesDecimalResults :
    let s := withF 0x01 ((boot [0xCE, 0x99, 0x27] []).setA 0x99)
    let u := withF 0x01 ((boot [0xDE, 0x99, 0x27] []).setA 0x00)
    (after (after s)).main.a = 0x99 ∧ (after (after s)).main.f.c = true ∧
      (after (after u)).main.a = 0x00 ∧ (after (after u)).main.f.c = true := by decide

/-- The device's answer is the next byte of the queue. -/
theorem test_witness_portsAreAccessedOnce :
    let s := { boot [] [] with ioIn := [0xAB] }
    s.ioIn = 0xAB :: [] ∧ s.portValue = 0xAB := by decide

theorem test_witness_returnsPopTheProgramCounter :
    (boot [] []).params.variant = .mpu ∧ (asCpu (boot [] [])).params.variant = .cpu := by decide

theorem test_witness_mmuBlockTransfers : (boot [0xED, 0x82] []).isMpu = true := by decide

theorem test_witness_watchDogMustBeServed_arming :
    let s := boot [0xED, 0x6E] []
    s.isMpu = true ∧ s.wdt.arm = 0 ∧ ({ s with wdt := ⟨false, 0, 0, 256⟩ } : State).wdt.arm ≠ 0 := by decide

/-- Writes inhibited nowhere, at the first byte of the block, and at the last one. -/
theorem test_witness_systemStatusReadClears :
    let s := (boot [0xED, 0x9A] []).setHl 0x6000
    s.isMpu = true ∧ (List.range 16).all (fun k => !s.inhibited (s.hl + BitVec.ofNat 16 k)) = true ∧
      (guarded [] [⟨0x6000, 0x6000⟩] s).inhibited 0x6000 = true ∧ (guarded [] [⟨0x6000, 0x6000⟩] s).inhibited 0x6001 = false ∧
      (guarded [] [⟨0x600F, 0x600F⟩] s).inhibited 0x600F = true ∧ (guarded [] [⟨0x600F, 0x600F⟩] s).inhibited 0x600E = false := by decide

theorem test_witness_undefinedEncodingsTrap_second :
    (boot [0xED, 0x02] []).Sequential ∧ (boot [0xED, 0x02] []).MayFetch ∧ (boot [0xED, 0x02] []).fetched = .illegal2 :=
  ⟨sequential_of _ (undisturbed_of _ (by decide)) (by decide), mayFetch_of _ (by decide), by decide⟩

theorem test_witness_undefinedEncodingsTrap_third :
    (boot [0xDD, 0xCB, 0x05, 0x00] []).Sequential ∧ (boot [0xDD, 0xCB, 0x05, 0x00] []).MayFetch ∧
      (boot [0xDD, 0xCB, 0x05, 0x00] []).fetched = .illegal3 .ix 0x05 :=
  ⟨sequential_of _ (undisturbed_of _ (by decide)) (by decide), mayFetch_of _ (by decide), by decide⟩

/-- An inhibited fetch at the last address of Page 0 or at the first one past it. -/
def inhibitedAt (pc : Nat) : State := guarded [⟨0x0FFF, 0x1000⟩] [] (bootAt pc [0x00] [])

theorem test_witness_executeInhibitTraps_page0 :
    (inhibitedAt 0x0FFF).Sequential ∧ ((inhibitedAt 0x0FFF).wpPending = false ∧ (inhibitedAt 0x0FFF).staleBuffer = false) ∧
      (inhibitedAt 0x0FFF).staleRepeat = false ∧ (inhibitedAt 0x0FFF).execInh 0x0FFF = true :=
  ⟨sequential_of _ (undisturbed_of _ (by decide)) (by decide), by decide, by decide, by decide⟩

theorem test_witness_executeInhibitTraps_page1 :
    (inhibitedAt 0x1000).Sequential ∧ ((inhibitedAt 0x1000).wpPending = false ∧ (inhibitedAt 0x1000).staleBuffer = false) ∧
      (inhibitedAt 0x1000).staleRepeat = false ∧ (inhibitedAt 0x1000).execInh 0x1000 = true :=
  ⟨sequential_of _ (undisturbed_of _ (by decide)) (by decide), by decide, by decide, by decide⟩

/-- A pending trap at a fetch that is not inhibited. -/
theorem test_witness_pendingWriteProtectTraps :
    let s := { boot [0x00] [] with wpPending := true }
    s.Sequential ∧ s.isMpu = true ∧ s.wpPending = true ∧ s.execInh (s.translate s.pc) = false :=
  ⟨sequential_of _ (undisturbed_of _ (by decide)) (by decide), by decide, by decide, by decide⟩

/-- A pending trap at an inhibited fetch at the end of Page 0. -/
theorem test_witness_pendingWriteProtectTraps_inhibited :
    let s := { inhibitedAt 0x0FFF with wpPending := true }
    s.Sequential ∧ s.isMpu = true ∧ s.execInh (s.translate s.pc) = true ∧ s.pc.toNat < 4096 :=
  ⟨sequential_of _ (undisturbed_of _ (by decide)) (by decide), by decide, by decide, by decide⟩

/-- A held-off boundary with a request for the bus: a pending trap, an inhibited fetch, and each step's address. -/
theorem test_witness_heldOffTraps :
    let s := { heldOff with wpPending := true }
    let u := guarded [⟨0x0100, 0x0100⟩] [] heldOff
    s.HeldOff ∧ s.isMpu = true ∧ u.HeldOff ∧ u.execInh (u.translate u.pc) = true ∧ (after s).pc = 0x0000 ∧
      (after s).wpPending = false ∧ (after s).dma.dus = 0 ∧ (after u).sys.trapXp = true :=
  ⟨heldOff_of _ _ rfl (by decide), by decide, heldOff_of _ _ rfl (by decide), by decide, by decide, by decide, by decide, by decide⟩

theorem test_witness_nonMaskableAcknowledge :
    let s := { boot [] [] with nmiPending := true, runState := .halt }
    s.Undisturbed ∧ s.noSample = false ∧ s.nmiPending = true :=
  ⟨undisturbed_of _ (by decide), by decide, by decide⟩

/-- The CPU variant in each interrupt mode. -/
theorem test_witness_maskableAcknowledge_cpu :
    (requested .im0 0xD7 []).Undisturbed ∧ (requested .im1 0xD7 []).Undisturbed ∧ (requested .im2 0xD7 []).Undisturbed ∧
      (requested .im0 0xD7 []).intReq = true ∧ (requested .im0 0xD7 []).iff1 = true ∧ (requested .im0 0xD7 []).nmiPending = false :=
  ⟨undisturbed_of _ (by decide), undisturbed_of _ (by decide), undisturbed_of _ (by decide), by decide, by decide, by decide⟩

/-- The MPU variant with the lowest and the highest input latched. -/
def latched (bits : BitVec 16) (im : IntMode) : State :=
  let s := boot [] []
  { s with irq := ⟨bits, 0⟩, im := im, iff1 := true, pins := { s.pins with intReqEn := 0xFFFF } }

theorem test_witness_maskableAcknowledge_mpu :
    (latched 0x8000 .im2).Undisturbed ∧ (latched 0x0001 .im0).Undisturbed ∧ (latched 0x8000 .im2).topRequest = some 15 ∧
      (latched 0x0001 .im0).topRequest = some 0 ∧ (latched 0x8000 .im2).intReq = true :=
  ⟨undisturbed_of _ (by decide), undisturbed_of _ (by decide), by decide, by decide, by decide⟩

/-- Some request, none because nothing is latched, and none because a service bit blocks it. -/
theorem test_witness_controllerPicksTheHighestEligible :
    (latched 0x8001 .im2).topRequest = some 0 ∧ (latched 0x0000 .im2).topRequest = none ∧
      ({ latched 0x8000 .im2 with irq := ⟨0x8000, 0x0001⟩ } : State).topRequest = none := by decide

/-- Masters 0 and 2 ask for the bus; the first writes one address twice. -/
def granting : State :=
  { boot [0x00] [] with script := [⟨[], some ⟨0x05, (Vector.replicate 8 [(0x4000, 0x33)]).set 0 [(0x4000, 0x11), (0x4000, 0x22)], 8⟩⟩] }

/-- The same with the highest index first. -/
def grantingHigh : State := { granting with params := { granting.params with dmaPriorityOrder := .highIndexHigh } }

theorem test_witness_busGrantChangesOnlyMemory :
    (granting.resetReq = false ∧ granting.upset = false ∧ granting.noSample = false) ∧
      (granting.dma.idle = 0 ∧ granting.dma.coreTurn = false) ∧
      (after granting).mem.read 0x4000 = 0x22 ∧ (after granting).pc = 0x0100 ∧ (after granting).dma.dus = 0x01 ∧
      (after grantingHigh).mem.read 0x4000 = 0x33 ∧ (after grantingHigh).dma.dus = 0x04 ∧
      (after (asCpu granting)).mem.read 0x4000 = 0x22 := by decide

/-- The count reaches the period exactly, or stays one clock below it. -/
theorem test_witness_watchDogMustBeServed_period :
    let s := fun n => { boot [] [] with wdt := ⟨true, 48576, 0, 0⟩, script := [⟨[.clocks n], none⟩] }
    (s 1000000).isMpu = true ∧ (s 1000000).wdt.enabled = true ∧
      ((s 1000000).wdt.limit.toNat + 1) * 2 ^ 20 ≤ (s 1000000).wdt.count + 1000000 ∧
      (s 1000000).wdt.count < ((s 1000000).wdt.limit.toNat + 1) * 2 ^ 20 ∧
      (s 999999).wdt.count + 999999 < ((s 999999).wdt.limit.toNat + 1) * 2 ^ 20 := by decide

/-- A count that has reached its period already pulses no more: the pulse of the first event is the only one (R578). -/
theorem test_witness_watchDogMustBeServed_once :
    let s := { boot [] [] with wdt := ⟨true, 1048575, 0, 0⟩ }
    let u := { s with script := [⟨[.clocks 1], none⟩] }.afterEvents
    let v := { s with script := [⟨[.clocks 1, .clocks 0, .clocks 5], none⟩] }
    u.trace = [.wdtTimeout] ∧ u.wdt.enabled = true ∧ (u.wdt.limit.toNat + 1) * 2 ^ 20 ≤ u.wdt.count ∧
      (after v).trace = [.wdtTimeout] ∧ (after v).pc = 0x0000 ∧ (after v).sys.rstWdt = true := by decide

/-- Inputs 0 and 15: a rising one that is enabled, one whose enable falls, and one newly enabled while inactive. -/
theorem test_witness_pinChangesReachTheirLatches :
    let s := boot [] []
    let old := { s.pins with intReqEn := 0x8001 }
    let new := { old with intReqBus := 0x8000, intReqEn := 0x8002, resetBus := 0x2 }
    let u := { s with pins := old, irq := ⟨0x0001, 0⟩, script := [⟨[.pins new], none⟩] }
    u.isMpu = true ∧ (asCpu u).isMpu = false ∧ u.afterEvents.irq.latch = 0x8000 ∧ u.afterEvents.resetReq = false ∧
      u.afterEvents.pins.resetBus = 0x2 ∧ u.afterEvents.resetFilter.line1 = ⟨false, 0⟩ := by decide

/-- A level of `reset_bus` that has stood for nine clocks, for eleven, and beside it one that has not changed (R591). -/
theorem test_witness_pinChangesReachTheirLatches_filter :
    let s := boot [] []
    let u := fun n => { s with
      pins := { s.pins with resetBus := 0x2 }, resetFilter := ⟨⟨false, 4⟩, ⟨false, 0⟩⟩, script := [⟨[.clocks n], none⟩] }
    (u 5).isMpu = true ∧ (u 5).afterEvents.resetFilter = ⟨⟨false, 9⟩, ⟨false, 0⟩⟩ ∧ (u 5).afterEvents.resetReq = false ∧
      (u 7).afterEvents.resetFilter = ⟨⟨true, 0⟩, ⟨false, 0⟩⟩ ∧ (u 7).afterEvents.resetReq = true ∧
      (u 7).afterEvents.sys.rb1Trans = true ∧ (u 7).afterEvents.sys.rb0Trans = false := by decide

/-- Neither input passes while the Watch-Dog stays a clock below its period, or has none to reach. -/
theorem test_witness_pinChangesReachTheirLatches_noReset :
    let s := boot [] []
    let u := fun on => { s with
      pins := { s.pins with resetBus := 0x1 }, wdt := ⟨on, 1048570, 0, 0⟩, script := [⟨[.clocks 5], none⟩] }
    (u true).isMpu = true ∧ (u true).afterEvents.resetFilter.line0 = ⟨false, 5⟩ ∧ (u true).wdt.count + 5 < 2 ^ 20 ∧
      (u true).afterEvents.resetReq = false ∧ (u false).afterEvents.resetReq = false := by decide

/-- At exactly ten clocks the level passes or waits. -/
theorem test_witness_pinChangesReachTheirLatches_ten :
    let s := boot [] []
    let u := { s with
      pins := { s.pins with resetBus := 0x2 }, resetFilter := ⟨⟨false, 4⟩, ⟨false, 0⟩⟩, script := [⟨[.clocks 6], none⟩] }
    u.pins.resetBus.getLsbD 1 ≠ u.resetFilter.line1.level ∧ u.resetFilter.line1.held + 6 = 10 := by decide

/-- R561: bit 3 of the Reset Status byte shows the level of `reset_bus[1]` before it passes the filter. -/
theorem test_reset_status_is_live :
    let s := (boot [0xED, 0x9A] []).setHl 0x6000
    let p := { s.pins with resetBus := 0x2, rtiDefault := 0x03D090 }
    let t := after { s with script := [⟨[.pins p, .clocks 9], none⟩] }
    t.mem.read 0x6000 = 0x18 ∧ t.resetReq = false := by decide

/-- `fault_detect` in both variants. -/
theorem test_witness_faultAndMasterResetLeaveTheirCause :
    let s := boot [] []
    let t := after { s with script := [⟨[.faultDetect 0x1234], none⟩] }
    s.isMpu = true ∧ t.sys.rstFault = true ∧ t.sys.faultLa = 0x1234 ∧ t.sys.faultPa = 0x0001 ∧ t.pc = 0 ∧
      (asCpu s).isMpu = false ∧ (asCpu s).resetReq = false := by decide

/-- A Wait limit at its lowest and highest value, and none. -/
theorem test_witness_timeOutsAreCounted_wait :
    let s := boot [] []
    let u := fun lim => { s with pins := { s.pins with ioWaitLim := lim }, script := [⟨[.waitTimeout .io], none⟩] }
    s.isMpu = true ∧ (u 1).afterEvents.sys.waitTo = 1 ∧ (u 31).afterEvents.sys.waitTo = 1 ∧
      (u 0).afterEvents.trace = [] := by decide

/-- A grant that reaches the limit exactly, one that stays a clock below it, and the boundary after the first. -/
theorem test_witness_timeOutsAreCounted_limiter :
    let s := boot [0x00] []
    let g := fun n => (⟨0x80, Vector.replicate 8 [], n⟩ : DmaRequest)
    let u := fun n => { s with pins := { s.pins with drqActLim := 2 }, script := [⟨[], some (g n)⟩] }
    (u 32).pins.drqActLim ≠ 0 ∧ (g 32).requests ≠ 0 ∧ (after (u 32)).dma = ⟨0, 0, 0, true⟩ ∧ (after (u 31)).dma = ⟨0x80, 31, 0, false⟩ ∧
      (after (u 32)).resetReq = false ∧ (after (u 32)).noSample = false := by decide

/-- Clocks between two grants count (R571): a grant of 31 clocks, then the limit exactly, one clock below it, and 16 clocks past it. -/
theorem test_witness_timeOutsAreCounted_clocks :
    let s := boot [0x00] []
    let u := fun n => { s with
      pins := { s.pins with drqActLim := 2, drqIdlLim := 3 }, dma := ⟨0x80, 31, 0, false⟩, script := [⟨[.clocks n], none⟩] }
    (u 1).dma.dus ≠ 0 ∧ (u 1).afterEvents.dma = ⟨0, 0, 48, true⟩ ∧ (u 1).afterEvents.trace = [.drqTimeout] ∧
      (u 1).afterEvents.sys.drqTo = 0x01 ∧ (u 0).afterEvents.dma = ⟨0x80, 31, 0, false⟩ ∧ (u 17).afterEvents.dma = ⟨0, 0, 32, true⟩ ∧
      ({ u 5 with dma := ⟨0, 0, 5, false⟩ } : State).afterEvents.dma = ⟨0, 0, 0, false⟩ := by decide

/-- The idle minimum: a request waits for its last clock, and a grant that ends by itself starts it (R571). -/
theorem test_witness_timeOutsAreCounted_idle :
    let s := boot [0x00] []
    let g : DmaRequest := ⟨0x80, Vector.replicate 8 [], 8⟩
    let u := fun idle => { s with dma := ⟨0, 0, idle, false⟩, script := [⟨[], some g⟩] }
    let v := fun d => { s with pins := { s.pins with drqIdlLim := 31 }, dma := ⟨0x80, 7, 0, false⟩, script := d }
    (after (u 1)).pc = 0x0101 ∧ (after (u 1)).dma.dus = 0 ∧ (after (u 0)).pc = 0x0100 ∧ (after (u 0)).dma.dus = 0x80 ∧
      (u 1).resetReq = false ∧ (u 1).upset = false ∧ (u 1).noSample = false ∧ (v []).dma.dus ≠ 0 ∧
      (after (v [])).dma = ⟨0, 0, 496, false⟩ ∧ (after (v [⟨[], some ⟨0, g.writes, 8⟩⟩])).dma = ⟨0, 0, 496, false⟩ := by decide

/-- The counter one clock before a pulse, at it, and at the second one, from the shortest period; and a stopped one. -/
theorem test_witness_freeRunningPulsesAreEvenlySpaced :
    let s := boot [] []
    let u := fun n => { s with
      pins := { s.pins with rtiDefault := 5, rtiNmi := true }, rti := RtiGen.start 3, script := [⟨[.clocks n], none⟩] }
    s.isMpu = true ∧ (u 2).rti.follows = false ∧ (u 2).pins.refClock = (u 2).rti.filtered ∧
      (u 2).afterEvents.trace = [] ∧ (u 3).afterEvents.trace = [.rtiPulse] ∧ (u 3).afterEvents.rti.count = 1024 ∧
      (u 1026).afterEvents.trace = [.rtiPulse] ∧ (u 1027).afterEvents.trace = [.rtiPulse, .rtiPulse] ∧
      ({ u 3 with rti := RtiGen.start 0 }).afterEvents.rti.count = 1021 := by decide

/-- A frame of two intervals, of 1025 and 1024 clocks: one clock before each pulse, and at it. -/
theorem test_witness_synchronisedPulsesDivideThePeriod :
    let s := secondEdge 2049 2
    let u := fun n => { s with pins := { s.pins with refClock := s.rti.filtered }, script := [⟨[.clocks n], none⟩] }
    s.isMpu = true ∧ s.rti = { RtiGen.start 1025 with
        filtered := true, edges := 2, period := 2049, follows := true, synced := true, quotient := 1024, remainder := 1, pulses := 2
        base := 1024, left := 1 } ∧
      (u 1024).afterEvents.trace = [] ∧ (u 1025).afterEvents.trace = [.rtiPulse] ∧ (u 2048).afterEvents.trace = [.rtiPulse] ∧
      (u 2049).afterEvents.trace = [.rtiPulse, .rtiPulse] := by decide

/-- An edge 3000 or 3001 clocks after the last, the period being 1500: two periods are not more than twice it, and one clock more is. -/
theorem test_witness_synchronisedPulsesDivideThePeriod_missed :
    let s := boot [] []
    let u := fun n => { s with
      pins := { s.pins with refClock := true, rtiDivisor := 2 }, rti := { RtiGen.start 0 with edges := 2, period := 1500, since := n } }
    (u 3000).refClockFiltered.rti.edges = 2 ∧ (u 3000).refClockFiltered.rti.period = 3000 ∧
      (u 3001).refClockFiltered.rti.edges = 1 ∧ (u 3001).refClockFiltered.rti.period = 1500 ∧ (u 3001).refClockFiltered.rti.since = 0 := by
  decide

/-- Divisor 1: the edge is the pulse. -/
theorem test_witness_synchronisedPulsesDivideThePeriod_through :
    let t := secondEdge 5000 1
    t.pins.refClock = true ∧ t.pins.rtiDivisor.toNat = 1 ∧ t.rti.follows = true ∧ t.trace = [.rtiPulse] := by decide

/-- A rising and a falling level one clock before the filter lets it pass, and at it, each with four clocks stood already. -/
theorem test_witness_synchronisedPulsesDivideThePeriod_filter :
    let s := boot [] []
    let u := fun high n => { s with
      pins := { s.pins with refClock := high }
      rti := { RtiGen.start 0 with filtered := !high, held := 4, edges := 1, since := 2000 }
      script := [⟨[.clocks n], none⟩] }
    (u true 6).pins.refClock ≠ (u true 6).rti.filtered ∧ (u true 6).afterEvents.rti.held = 10 ∧
      (u true 6).afterEvents.rti.filtered = false ∧ (u true 8).afterEvents.rti.filtered = true ∧ (u true 8).afterEvents.rti.since = 1 ∧
      (u true 8).afterEvents.rti.period = 2007 ∧ (u true 8).afterEvents.rti.edges = 2 ∧
      (u false 7).afterEvents.rti.filtered = false ∧ (u false 7).afterEvents.rti.since = 2007 ∧ (u false 7).afterEvents.rti.edges = 1 := by
  decide

/-- R581: the longest intervals that fit the 24-bit counter have their length: 0xFFFFFF, and 0xFFFFFE and one clock more. -/
theorem test_rti_longest_intervals :
    (secondEdge (2 * 0xFFFFFF) 2).rti.count = 0xFFFFFF ∧ (secondEdge (2 * 0xFFFFFE + 1) 2).rti.count = 0xFFFFFF := by decide

/-- R581: an edge in the mode, the last pulse the nearer one or the next one, each one clock away and two; the new period is 6001. -/
theorem test_witness_synchronisedPulsesDivideThePeriod_align :
    let s := boot [] []
    let u := fun count elapsed => ({ s with
      pins := { s.pins with refClock := true, rtiDivisor := 2 }
      rti := { RtiGen.start count with
        edges := 2, period := 5000, since := 6001, follows := true, synced := true, base := 2500, pulses := 2, left := 1
        elapsed := elapsed } } : State).refClockFiltered.rti
    (u 2499 1).count = 3000 ∧ (u 2499 1).adjust = .exact ∧ (u 2498 2).count = 2999 ∧ (u 2498 2).adjust = .longer ∧
      (u 2498 2).left = 1 ∧ (u 2498 2).base = 3000 ∧ (u 1 2499).count = 1 ∧ (u 1 2499).adjust = .exact ∧ (u 2 2498).left = 0 ∧
      (u 2 2498).quotient = 3000 ∧ (u 2 2498).adjust = .shorter := by decide

end Sys2Proof.Machine.Tests
end

/-! The step at the boundaries of 00_scope.md R18: the sequential one (O4), the one held off by NOSAMPLE (O5) and the one of a
stopped core (O6). -/

namespace Sys2Proof.Machine

open Sys2Proof

/-! ### Item 8 of R18: the decoded instruction and the buffers it leaves -/

theorem State.codeByte_zero (s : State) : s.codeByte 0 = s.readByte s.pc := by
  simp [State.codeByte]

theorem State.codeByte_one (s : State) : s.codeByte 1 = s.readByte (s.pc + 1) := rfl

/-- What `prefetch` and `settle` leave in PREFETCHED, with their two conditions in one (R46, R612). -/
theorem State.settle_prefetched (s t : State) (i : Instr) (next : Word) :
    (s.settle t i next).prefetched =
      if prefetches i = true ∧ s.pins.prefetchEn = true ∧ isPrefixByte (s.readByte next) = true ∧
          s.execInh (s.translate next) = false
      then some (s.readByte next) else none := by
  simp only [State.settle, State.prefetch, ite_and, Bool.and_eq_true, Bool.not_eq_true']

theorem State.settle_repeating (s t : State) (i : Instr) (next : Word) :
    (s.settle t i next).repeating =
      if repeats i = true ∧ t.pc = s.pc then some (s.readByte s.pc, s.readByte (s.pc + 1)) else none := by
  simp only [State.settle, State.codeByte_zero, State.codeByte_one]

/-- After an instruction only the two fetch buffers are set. -/
theorem State.settle_onlyBuffers (s t : State) (i : Instr) (next : Word) :
    s.settle t i next =
      { t with prefetched := (s.settle t i next).prefetched, repeating := (s.settle t i next).repeating } := rfl

section
variable {s : State} {i : Instr} {len : Nat}

theorem State.runInstruction_next {t : State} (hf : s.fetched = .instr i len)
    (he : exec i (s.setPc (s.pc + BitVec.ofNat 16 len)) = .next t) :
    s.runInstruction = .next (s.settle t i (s.pc + BitVec.ofNat 16 len)) := by
  simp only [State.runInstruction, hf, he]

theorem State.runInstruction_fault {r : Fault} (hf : s.fetched = .instr i len)
    (he : exec i (s.setPc (s.pc + BitVec.ofNat 16 len)) = .fault r) : s.runInstruction = .fault r := by
  simp only [State.runInstruction, hf, he]

theorem State.runInstruction_refused {r : Refusal} (hf : s.fetched = .instr i len)
    (he : exec i (s.setPc (s.pc + BitVec.ofNat 16 len)) = .refused r) : s.runInstruction = .refused r := by
  simp only [State.runInstruction, hf, he]

end

/-! ### Item 2 of R18: the boundary held off by NOSAMPLE -/

/-- A tick without events only uses up the script. -/
theorem State.afterEvents_noEvents {s : State} {d : Option DmaRequest} (h : s.script = [⟨[], d⟩]) :
    s.afterEvents = { s with script := [] } := by
  simp [State.afterEvents, State.tick, State.absorbAll, h]

/-- With NOSAMPLE set the boundary goes straight to items 5 to 8, whatever the tick asks for. -/
theorem State.boundary_heldOff {s : State} (hm : s.isMpu = true) (hn : s.noSample = true) (hr : s.resetReq = false)
    (hu : s.upset = false) (d : Option DmaRequest) : s.boundary d = { s with noSample := false }.proceed := by
  simp [State.boundary, hm, hn, hr, hu]

theorem step_heldOff {s : State} (h : s.HeldOff) : step s = { s with noSample := false, script := [] }.proceed := by
  obtain ⟨hm, hn, ⟨d, hd⟩, hr, hu, -⟩ := h
  have hboundary : step s = s.afterEvents.boundary s.tick.dma := rfl
  rw [hboundary, State.afterEvents_noEvents hd]
  exact State.boundary_heldOff (s := { s with script := [] }) hm hn hr hu _

/-! ### Items 4 and 5 of R18: the stopped states -/

theorem State.proceed_stopped {s : State} (h : s.runState ≠ .run) : s.proceed = .next s := if_pos h

/-- An undisturbed core with no interrupt to take samples the request, which only the Sleep state does, and proceeds. -/
theorem step_uninterrupted {s : State} (h : s.Undisturbed) (hn : s.noSample = false) (hm : s.nmiPending = false)
    (hi : (s.intReq && s.iff1) = false) : step s = s.sleepSample.proceed := by
  simp [step_undisturbed s h hn, hm, hi]

theorem State.sleepSample_awake {s : State} (h : s.runState ≠ .sleep) : s.sleepSample = s := if_neg h

theorem State.sleepSample_noWake {s : State} (h : s.runState = .sleep) (hw : s.wakeEvent = false) :
    s.sleepSample = { s with reqSeen := s.intReq } := by
  simp [State.sleepSample, h, hw]

theorem State.sleepSample_wake {s : State} (h : s.runState = .sleep) (hw : s.wakeEvent = true) (hi : s.iff1 = false) :
    s.sleepSample = { s with runState := .run, reqSeen := s.intReq } := by
  simp [State.sleepSample, h, hw, hi]

/-- The wake event of R425, with the two readings of D20 for a request seen before. -/
theorem State.wakeEvent_iff {s : State} :
    s.wakeEvent = true ↔ s.intReq = true ∧ (s.params.slpWakeLevel = true ∨ s.reqSeen = false) := by
  simp [State.wakeEvent]

/-- A sleeping core without a wake event sleeps on, with the request sampled. -/
theorem step_sleepsOn {s : State} (hstep : step s = s.sleepSample.proceed) (hs : s.runState = .sleep)
    (hw : s.wakeEvent = false) : step s = .next { s with reqSeen := s.intReq } := by
  rw [hstep, State.sleepSample_noWake hs hw]
  exact State.proceed_stopped (by simp [hs])

/-- A sleeping core with a wake event and interrupts disabled runs the instruction at PC. -/
theorem step_wakes {s : State} (hstep : step s = s.sleepSample.proceed) (hs : s.runState = .sleep)
    (hw : s.wakeEvent = true) (hi : s.iff1 = false) (hf : s.MayFetch) :
    step s = { s with runState := .run, reqSeen := true }.runInstruction := by
  have hreq : s.intReq = true := (State.wakeEvent_iff.mp hw).1
  rw [hstep, State.sleepSample_wake hs hw hi, hreq]
  exact State.proceed_mayFetch _ rfl ⟨hf.wpPending, hf.buffer, hf.repeats, hf.execInh⟩

/-! ### The obligations -/

/-- Settles O6: the step is the sampled request and then items 5 to 8, and the clauses are whether there is a wake event. -/
theorem stoppedCoreWaitsForARequest : Obligations.StoppedCoreWaitsForARequest := by
  intro s hu hn hm hi wakes
  have hstep : step s = s.sleepSample.proceed := step_uninterrupted hu hn hm hi
  have disabled (hq : s.intReq = true) : s.iff1 = false := by simpa [hq] using hi
  refine ⟨fun hh => ?halted, fun hs hq => ?noRequest, fun hs hq hseen hf => ?newRequest,
    fun hs hq _ hlevel hf => ?seenLevel, fun hs hq hseen hlevel => ?seenEdge⟩
  case halted =>
    rw [hstep, State.sleepSample_awake (by simp [hh])]
    exact State.proceed_stopped (by simp [hh])
  case noRequest =>
    have hw : s.wakeEvent = false := by simp [State.wakeEvent, hq]
    rw [step_sleepsOn hstep hs hw, hq]
  case newRequest =>
    exact step_wakes hstep hs (State.wakeEvent_iff.mpr ⟨hq, .inr hseen⟩) (disabled hq) hf
  case seenLevel =>
    exact step_wakes hstep hs (State.wakeEvent_iff.mpr ⟨hq, .inl hlevel⟩) (disabled hq) hf
  case seenEdge =>
    have hw : s.wakeEvent = false := by simp [State.wakeEvent, hseen, hlevel]
    rw [step_sleepsOn hstep hs hw, hq, ← hseen]

/-- Settles O4: a sequential boundary is item 8 of R18, split by what the instruction's meaning answers. -/
theorem stepRunsTheDecodedInstruction : Obligations.StepRunsTheDecodedInstruction := by
  intro s i len hs hf hd next
  have hstep : step s = s.runInstruction := by
    rw [step_sequential s hs, s.proceed_mayFetch hs.running hf]
  have hfetch : s.fetched = .instr i len := s.fetched_eq.trans hd
  rw [hstep]
  cases he : exec i { s with pc := next } with
  | next t =>
    rw [State.runInstruction_next hfetch he, State.settle_onlyBuffers, State.settle_prefetched, State.settle_repeating]
  | fault r => exact State.runInstruction_fault hfetch he
  | refused r => exact State.runInstruction_refused hfetch he

/-- Settles O5: items 3 and 4 of R18 are passed over, and nothing stands in the way of the fetch. -/
theorem heldOffBoundaryRunsTheNextInstruction : Obligations.HeldOffBoundaryRunsTheNextInstruction := by
  intro s h hf
  rw [step_heldOff h]
  exact State.proceed_mayFetch _ h.running ⟨hf.wpPending, hf.buffer, hf.repeats, hf.execInh⟩

end Sys2Proof.Machine

/-! The state of the machine (10_state.md): what the reset state holds (O8), that it meets the invariant (O9), and how an
encoding's operands are formed (O13). -/

namespace Sys2Proof.Machine

open Sys2Proof

/-! ### The reset state -/

/-- Register `n` of the identity map holds `n`: no page is translated (R60, R96). -/
theorem identityMap_getElem (n : Fin 16) : identityMap[n] = BitVec.ofNat 16 n.val := by
  revert n
  decide

/-- The power-on state of any implementation meets the invariant: memory, the buffers and the counters are empty, and nothing that
only the MPU variant has is set (R60). -/
theorem State.resetWith_inv (p : Params) : (State.resetWith p).Inv where
  memCanonical := ⟨.nil, nofun⟩
  memBounded := nofun
  latchEnabled _ := BitVec.zero_and
  oneDus := BitVec.zero_and
  armWindow := Nat.zero_le _
  bufferedPrefix := nofun
  repeatedEd := nofun
  rtiFits := Nat.two_pow_pos 24
  rtiRoom := ⟨Nat.two_pow_pos 24, Nat.two_pow_pos 24⟩
  rtiFilter := Nat.succ_pos 10
  rtiEdges := Nat.zero_le _
  resetHeld := ⟨Nat.succ_pos 10, Nat.succ_pos 10⟩
  wdtCounts := nofun
  cpuHasNoMpuState _ := ⟨rfl, rfl, rfl, rfl⟩
  mpuNeverUpset _ := rfl

/-- Settles O8: the fields as `State.resetWith` lists them, the translation registers through `identityMap_getElem`. -/
theorem resetLeavesTheStatedValues : Obligations.ResetLeavesTheStatedValues := by
  have identity (n : Fin 16) : State.reset.mmu.active[n] = BitVec.ofNat 16 n.val ∧
      State.reset.mmu.buffer[n] = BitVec.ofNat 16 n.val := ⟨identityMap_getElem n, identityMap_getElem n⟩
  exact ⟨rfl, rfl, identity, rfl, rfl, rfl, rfl, rfl, rfl, rfl, rfl, rfl, rfl, rfl⟩

/-- Settles O9: `State.reset` is the power-on state with the standard parameters. -/
theorem resetStateMeetsTheInvariant : Obligations.ResetStateMeetsTheInvariant :=
  State.resetWith_inv Params.standard

/-! ### Operands -/

/-- Two bytes side by side are a word with the first one high (R31, R86). -/
theorem toNat_append_bytes (hi lo : Byte) : (hi ++ lo).toNat = 256 * hi.toNat + lo.toNat := by
  rw [BitVec.toNat_append, ← Nat.shiftLeft_add_eq_or_of_lt lo.isLt, Nat.shiftLeft_eq, Nat.mul_comm]

/-- Adding a sign-extended byte adds its signed value, modulo 2^16 (R127, G3). -/
theorem toNat_add_signExtend (w : Word) (d : Byte) :
    ((w + d.signExtend 16).toNat : Int) = (w.toNat + d.toInt) % 65536 := by
  rw [BitVec.toNat_add, BitVec.signExtend, BitVec.toNat_ofInt]
  omega

/-- A word in memory has its low byte at the address and its high byte at the next one (R86). -/
theorem State.readWord_toNat (s : State) (la : Word) :
    (s.readWord la).toNat = (s.readByte la).toNat + 256 * (s.readByte (la + 1)).toNat := by
  rw [State.readWord, toNat_append_bytes, Nat.add_comm]

/-- The address of an indexed operand (R127). -/
theorem State.indexed_toNat (s : State) (y : Idx) (d : Byte) :
    ((s.indexed y d).toNat : Int) = ((s.idx y).toNat + d.toInt) % 65536 :=
  toNat_add_signExtend (s.idx y) d

/-- Settles O13. In each of the five tables every code is the encoder's own code of the register the accessor reads; the numbers follow
from how bytes join and how a displacement is added. -/
theorem operandsAreFormedAsWritten : Obligations.OperandsAreFormedAsWritten := by
  intro s reg dd tt xx yy
  have byteRow (r : Reg8) : reg r r.code (s.r8 r) := ⟨rfl, rfl⟩
  have ddRow (r : RegSs) : dd r r.code (s.rp r) := ⟨rfl, rfl⟩
  have ttRow (r : RegTt) : tt r r.code (s.rpTt r) := ⟨rfl, rfl⟩
  have xxRow (r : RegXx) : xx r r.code (s.rpXx r) := ⟨rfl, rfl⟩
  have yyRow (r : RegYy) : yy r r.code (s.rpYy r) := ⟨rfl, rfl⟩
  exact ⟨byteRow .b, byteRow .c, byteRow .d, byteRow .e, byteRow .h, byteRow .l, byteRow .a,
    ddRow .bc, ddRow .de, ddRow .hl, ddRow .sp,
    ttRow .bc, ttRow .de, ttRow .hl, ttRow .af,
    xxRow .bc, xxRow .de, xxRow .ix, xxRow .sp,
    yyRow .bc, yyRow .de, yyRow .iy, yyRow .sp,
    rfl, rfl, rfl, rfl,
    toNat_append_bytes _ _, toNat_append_bytes _ _, toNat_append_bytes _ _, toNat_append_bytes _ _,
    fun _ => rfl, s.readWord_toNat, s.indexed_toNat⟩

end Sys2Proof.Machine

/-! Memory and the invariant of the machine (20_memory.md): every access goes through the translation (O12), and every step keeps the
invariant (O10). The invariant is kept by each named operation of the state, by each instruction, by each event of the environment and by
each way a boundary can end; the last two parts assemble the step from them. -/

namespace Sys2Proof.Machine

open Sys2Proof

/-! ### Translation -/

theorem State.isMpu_iff {s : State} : s.isMpu = true ↔ s.params.variant = .mpu := by simp [State.isMpu]

theorem State.isMpu_eq_false_iff {s : State} : s.isMpu = false ↔ s.params.variant = .cpu := by
  cases h : s.params.variant <;> simp [State.isMpu, h]

/-- What is said of the CPU variant says nothing of the MPU. -/
theorem State.not_cpu {s : State} (hm : s.isMpu = true) {p : Prop} (hc : s.isMpu = false) : p :=
  absurd (hm.symm.trans hc) (by decide)

/-- The CPU variant does not translate (R95). -/
theorem State.translate_cpu {s : State} (h : s.params.variant = .cpu) (la : Word) : (s.translate la).toNat = la.toNat := by
  have hw := la.isLt
  simp only [State.translate, h, BitVec.toNat_setWidth]
  omega

/-- The MPU variant looks up the page: its register above the twelve low bits of the logical address (R95). -/
theorem State.translate_mpu {s : State} (h : s.params.variant = .mpu) (la : Word) {page : Fin 16}
    (hp : page.val = la.toNat / 4096) :
    (s.translate la).toNat = s.mmu.active[page].toNat * 4096 + la.toNat % 4096 := by
  have hpage : (la.extractLsb' 12 4).toFin = page := by
    apply Fin.ext
    have hw := la.isLt
    simp only [BitVec.val_toFin, BitVec.extractLsb'_toNat, Nat.shiftRight_eq_div_pow, hp]
    omega
  have hlow : (la.extractLsb' 0 12).toNat = la.toNat % 4096 := by simp
  simp only [State.translate, h, hpage]
  rw [BitVec.toNat_append, ← Nat.shiftLeft_add_eq_or_of_lt (la.extractLsb' 0 12).isLt, Nat.shiftLeft_eq, hlow]

/-- Settles O12: one clause for each variant, and the read itself is by definition at the translated address. -/
theorem translationLooksUpThePage : Obligations.TranslationLooksUpThePage := by
  intro s la
  exact ⟨rfl, fun h => State.translate_cpu h la, fun h _ hp => State.translate_mpu h la hp⟩

/-- No access leaves the address space of the variant (R83, R9). -/
theorem State.translate_lt_addressBound (s : State) (la : Word) : (s.translate la).toNat < s.addressBound := by
  cases h : s.params.variant with
  | cpu =>
    rw [State.translate_cpu h, State.addressBound, h]
    exact la.isLt
  | mpu =>
    rw [State.addressBound, h]
    exact (s.translate la).isLt

theorem State.busAddress_lt_addressBound (s : State) (pa : Phys) : s.busAddress pa < s.addressBound := by
  cases h : s.params.variant with
  | cpu =>
    rw [State.busAddress, State.addressBound, State.isMpu_eq_false_iff.mpr h, h]
    exact Nat.mod_lt _ (by decide)
  | mpu =>
    rw [State.busAddress, State.addressBound, State.isMpu_iff.mpr h, h]
    exact pa.isLt

/-! ### Only the ED map holds repeating instructions -/

/-- Whether an instruction that may set PC back to itself was decoded (R360). -/
def decodedRepeats : Decoded → Bool
  | .instr i _ => repeats i
  | .illegal2 => false
  | .illegal3 _ _ => false

theorem repeats_aluR (r : Reg8) (n : Nat) : repeats (aluR r n) = false := by
  unfold aluR
  split <;> rfl

theorem repeats_aluHl (n : Nat) : repeats (aluHl n) = false := by
  unfold aluHl
  split <;> rfl

theorem repeats_aluN (v : Byte) (n : Nat) : repeats (aluN v n) = false := by
  unfold aluN
  split <;> rfl

theorem repeats_aluXd (x : Idx) (d : Byte) (n : Nat) : repeats (aluXd x d n) = false := by
  unfold aluXd
  split <;> rfl

theorem repeats_addXy (x : Idx) (code : Nat) : repeats (addXy x code) = false := by
  cases x <;> rfl

theorem repeats_of_rotR {r : Reg8} {n : Nat} {i : Instr} (h : rotR r n = some i) : repeats i = false := by
  unfold rotR at h
  split at h <;> cases h <;> rfl

theorem repeats_of_rotHl {n : Nat} {i : Instr} (h : rotHl n = some i) : repeats i = false := by
  unfold rotHl at h
  split at h <;> cases h <;> rfl

theorem repeats_of_rotXd {x : Idx} {d : Byte} {n : Nat} {i : Instr} (h : rotXd x d n = some i) : repeats i = false := by
  unfold rotXd at h
  split at h <;> cases h <;> rfl

theorem decodeX0_repeats (y z : Nat) (b1 b2 : Byte) : decodedRepeats (decodeX0 y z b1 b2) = false := by
  unfold decodeX0
  repeat' split
  all_goals rfl

theorem decodeX1_repeats (y z : Nat) : decodedRepeats (decodeX1 y z) = false := by
  unfold decodeX1
  split <;> rfl

theorem decodeX2_repeats (y z : Nat) : decodedRepeats (decodeX2 y z) = false := by
  unfold decodeX2
  split
  · exact repeats_aluR _ _
  · exact repeats_aluHl _

theorem decodeX3_repeats (y z : Nat) (b1 b2 : Byte) : decodedRepeats (decodeX3 y z b1 b2) = false := by
  unfold decodeX3
  split
  case h_7 => exact repeats_aluN _ _
  all_goals
    repeat' split
    all_goals rfl

theorem decodeMain_repeats (op : Nat) (b1 b2 : Byte) : decodedRepeats (decodeMain op b1 b2) = false := by
  unfold decodeMain
  split
  · exact decodeX0_repeats _ _ _ _
  · exact decodeX1_repeats _ _
  · exact decodeX2_repeats _ _
  · exact decodeX3_repeats _ _ _ _

theorem decodeCb_repeats (op : Nat) : decodedRepeats (decodeCb op) = false := by
  unfold decodeCb
  dsimp only
  split
  · split
    · split
      · next h => exact repeats_of_rotR h
      · rfl
    all_goals rfl
  · split
    · split
      · next h => exact repeats_of_rotHl h
      · rfl
    all_goals rfl

theorem decodeXCb_repeats (x : Idx) (d : Byte) (op : Nat) : decodedRepeats (decodeXCb x d op) = false := by
  unfold decodeXCb
  dsimp only
  split
  · split
    · split
      · next h => exact repeats_of_rotXd h
      · rfl
    all_goals rfl
  · rfl

theorem decodeXyMap_repeats (x : Idx) (op : Nat) (b2 b3 : Byte) : decodedRepeats (decodeXyMap x op b2 b3) = false := by
  unfold decodeXyMap
  split
  case h_1 | h_2 | h_3 | h_4 => exact repeats_addXy _ _
  case h_13 => exact decodeXCb_repeats _ _ _
  all_goals rfl

theorem decodeXy_repeats (x : Idx) (op : Nat) (b2 b3 : Byte) : decodedRepeats (decodeXy x op b2 b3) = false := by
  unfold decodeXy
  split
  · split <;> rfl
  · split
    · rfl
    · exact repeats_aluXd _ _ _
  · exact decodeXyMap_repeats _ _ _ _

/-- A repeating instruction is decoded after the first byte 0xED alone (R133, R360). -/
theorem eq_ed_of_decode_repeats {v : Variant} {b0 b1 b2 b3 : Byte} {i : Instr} {len : Nat}
    (hd : decode v b0 b1 b2 b3 = .instr i len) (hr : repeats i = true) : b0 = 0xED := by
  have hrep : decodedRepeats (decode v b0 b1 b2 b3) = true := by rw [hd]; exact hr
  unfold decode at hrep
  split at hrep
  case h_1 => exact absurd hrep (by simp [decodeCb_repeats])
  case h_2 h => exact BitVec.eq_of_toNat_eq h
  case h_3 => exact absurd hrep (by simp [decodeXy_repeats])
  case h_4 => exact absurd hrep (by simp [decodeXy_repeats])
  case h_5 => exact absurd hrep (by simp [decodeMain_repeats])

/-! ### Updates that keep the invariant -/

/-- `t` is `s` but for the fields of which the invariant says nothing. -/
def State.OnlyUnguarded (s t : State) : Prop :=
  t = { s with
    main := t.main
    alt := t.alt
    ix := t.ix
    iy := t.iy
    sp := t.sp
    pc := t.pc
    i := t.i
    r := t.r
    iff1 := t.iff1
    iff2 := t.iff2
    im := t.im
    runState := t.runState
    nmiPending := t.nmiPending
    reqSeen := t.reqSeen
    mmu := t.mmu
    sys := t.sys
    script := t.script
    ioIn := t.ioIn
    trace := t.trace
    fresh := t.fresh }

/-- What the invariant says of the RTI generator (R56, R581). -/
structure RtiGen.Sound (g : RtiGen) : Prop extends g.Fits where
  held : g.held < filterClocks
  edges : g.edges ≤ 2

theorem State.isMpu_congr {s t : State} (h : t.params = s.params) : t.isMpu = s.isMpu := by rw [State.isMpu, State.isMpu, h]

theorem State.trapEntry_isMpu (s : State) (stacked : Word) : (s.trapEntry stacked).isMpu = s.isMpu :=
  State.isMpu_congr (State.push16_params s stacked)

theorem State.storeBlock_params (s : State) (vs : List Byte) : (s.storeBlock vs).params = s.params := by
  induction vs generalizing s with
  | nil => rfl
  | cons v vs ih => simp [State.storeBlock, ih]

theorem State.storeStatus_params (s : State) (draw offset : Nat) (inhibited : Bool) (vs : List Byte) :
    (s.storeStatus draw offset inhibited vs).params = s.params := by
  induction vs generalizing s offset inhibited with
  | nil => rfl
  | cons v vs ih => simp [State.storeStatus, ih]

namespace State.Inv

variable {s t : State}

theorem onlyUnguarded (h : s.Inv) (k : s.OnlyUnguarded t) : t.Inv := by
  rw [k]
  exact { h with }

/-- Another memory, in canonical form and within the address space (R83). -/
theorem withMem (h : s.Inv) {m : Memory} (hw : m.wf) (hb : ∀ x ∈ m.cells, x.1 < s.addressBound) :
    State.Inv { s with mem := m } :=
  { h with memCanonical := hw, memBounded := hb }

/-- A store within the address space. -/
theorem store (h : s.Inv) {a : Nat} (ha : a < s.addressBound) (v : Byte) : State.Inv { s with mem := s.mem.store a v } :=
  h.withMem (Memory.wf_store _ _ _ h.memCanonical) (Memory.bounded_store _ _ _ _ ha h.memBounded)

/-- A reset may be requested at any time (R578, R590). -/
theorem requestReset (h : s.Inv) : State.Inv { s with resetReq := true } :=
  { h with wdtCounts := fun _ => .inr rfl }

/-- A pending Write Protect trap is the MPU's alone (R507). -/
theorem withWpPending (h : s.Inv) (hm : s.isMpu = true) (b : Bool) : State.Inv { s with wpPending := b } :=
  { h with cpuHasNoMpuState := State.not_cpu hm }

/-- NOSAMPLE is the MPU's alone (R440). -/
theorem withNoSample (h : s.Inv) (hm : s.isMpu = true) (b : Bool) : State.Inv { s with noSample := b } :=
  { h with cpuHasNoMpuState := State.not_cpu hm }

theorem fatalError (h : s.Inv) (hm : s.isMpu = true) : s.fatalError.Inv :=
  { h with
    wdtCounts := fun _ => .inr rfl
    cpuHasNoMpuState := State.not_cpu hm }

theorem dropBuffers (h : s.Inv) : s.dropBuffers.Inv :=
  { h with bufferedPrefix := nofun, repeatedEd := nofun }

/-- Interrupt-Under-Service bits of any value, and latches of enabled inputs only (R541). -/
theorem withIrq (h : s.Inv) {c : IrqController} (hl : s.isMpu = true → c.latch &&& ~~~s.pins.intReqEn = 0) :
    State.Inv { s with irq := c } :=
  { h with latchEnabled := hl }

/-- At most one DUS bit (R572). -/
theorem withDma (h : s.Inv) {d : DmaController} (hd : d.dus &&& (d.dus - 1) = 0) : State.Inv { s with dma := d } :=
  { h with oneDus := hd }

theorem rtiSound (h : s.Inv) : s.rti.Sound :=
  ⟨⟨h.rtiFits, h.rtiRoom.1, h.rtiRoom.2⟩, h.rtiFilter, h.rtiEdges⟩

theorem withRti (h : s.Inv) {g : RtiGen} (hg : g.Sound) : State.Inv { s with rti := g } :=
  { h with
    rtiFits := hg.count
    rtiRoom := ⟨hg.quotient, hg.base⟩
    rtiFilter := hg.held
    rtiEdges := hg.edges }

theorem withResetFilter (h : s.Inv) {f : ResetFilter} (h1 : f.line1.held < 11) (h0 : f.line0.held < 11) :
    State.Inv { s with resetFilter := f } :=
  { h with resetHeld := ⟨h1, h0⟩ }

/-! #### Registers, ports and memory -/

theorem emit (h : s.Inv) (x : Signal) : (s.emit x).Inv := h.onlyUnguarded rfl

theorem withSys (h : s.Inv) (y : SysStatus) : State.Inv { s with sys := y } := h.onlyUnguarded rfl

theorem latchTrap (h : s.Inv) (la : Word) : (s.latchTrap la).Inv := h.onlyUnguarded rfl

theorem doubleJam (h : s.Inv) : s.doubleJam.Inv := h.onlyUnguarded rfl

theorem setR8 (h : s.Inv) (r : Reg8) (v : Byte) : (s.setR8 r v).Inv := h.onlyUnguarded rfl

theorem setA (h : s.Inv) (v : Byte) : (s.setA v).Inv := h.onlyUnguarded rfl

theorem setBc (h : s.Inv) (v : Word) : (s.setBc v).Inv := h.onlyUnguarded rfl

theorem setDe (h : s.Inv) (v : Word) : (s.setDe v).Inv := h.onlyUnguarded rfl

theorem setHl (h : s.Inv) (v : Word) : (s.setHl v).Inv := h.onlyUnguarded rfl

theorem setRp (h : s.Inv) (r : RegSs) (v : Word) : (s.setRp r v).Inv := by
  cases r <;> exact h.onlyUnguarded rfl

theorem setRpTt (h : s.Inv) (r : RegTt) (v : Word) : (s.setRpTt r v).Inv := by
  cases r <;> exact h.onlyUnguarded rfl

theorem setIdx (h : s.Inv) (y : Idx) (v : Word) : (s.setIdx y v).Inv := by
  cases y <;> exact h.onlyUnguarded rfl

theorem dropWord (h : s.Inv) : s.dropWord.Inv := h.onlyUnguarded rfl

theorem setFlags (h : s.Inv) (f : Flags) : (s.setFlags f).Inv := h.onlyUnguarded rfl

theorem portRead (h : s.Inv) (port : Word) : (s.portRead port).Inv := h.onlyUnguarded rfl

theorem portWrite (h : s.Inv) (port : Word) (v : Byte) : (s.portWrite port v).Inv := h.onlyUnguarded rfl

/-- A memory write stores within the address space, or is inhibited, which only the MPU does (R85, R100). -/
theorem writeByte (h : s.Inv) (stack : Bool) (la : Word) (v : Byte) : (s.writeByte stack la v).Inv := by
  rcases s.writeByte_cases stack la v with ⟨-, e⟩ | ⟨hi, e⟩
  · rw [e]
    exact h.store (s.translate_lt_addressBound la) v
  · rw [e]
    have hm : s.isMpu = true := (Bool.and_eq_true_iff.mp hi).1
    have ht : (s.inhibitWrite false la).Inv := (h.withWpPending hm true).onlyUnguarded rfl
    cases stack with
    | false => exact ht
    | true => exact ht.fatalError hm

theorem writeWord (h : s.Inv) (stack : Bool) (la w : Word) : (s.writeWord stack la w).Inv :=
  (h.writeByte stack la (low w)).writeByte stack (la + 1) (high w)

theorem push16 (h : s.Inv) (v : Word) : (s.push16 v).Inv :=
  ((h.writeByte true (s.sp - 1) (high v)).writeByte true (s.sp - 2) (low v)).onlyUnguarded rfl

theorem enter (h : s.Inv) (stacked target : Word) : (s.enter stacked target).Inv := (h.push16 stacked).onlyUnguarded rfl

theorem trapEntry (h : s.Inv) (stacked : Word) : (s.trapEntry stacked).Inv := (h.enter stacked 0x0000).dropBuffers

theorem leave (h : s.Inv) : s.leave.Inv := h.onlyUnguarded rfl

/-- The sixteen writes of a block instruction (R441). -/
theorem storeBlock (h : s.Inv) (vs : List Byte) : (s.storeBlock vs).Inv := by
  induction vs generalizing s with
  | nil => exact h
  | cons v vs ih => exact ih ((h.writeByte false s.hl v).onlyUnguarded rfl)

/-- The sixteen writes of LDM (HL),SYS (R447). -/
theorem storeStatus (h : s.Inv) (draw offset : Nat) (inhibited : Bool) (vs : List Byte) :
    (s.storeStatus draw offset inhibited vs).Inv := by
  induction vs generalizing s offset inhibited with
  | nil => exact h
  | cons v vs ih =>
    refine ih ?_ _ _
    exact (h.writeByte false s.hl (statusByte draw offset inhibited v)).onlyUnguarded rfl

/-! #### Traps, interrupts and reset -/

theorem illegal2Trap (h : s.Inv) (start : Word) : (s.illegal2Trap start).Inv := by
  unfold State.illegal2Trap
  refine State.Inv.trapEntry ?_ _
  split <;> exact h.onlyUnguarded rfl

theorem illegal3Trap (h : s.Inv) (start : Word) : (s.illegal3Trap start).Inv := by
  unfold State.illegal3Trap
  refine State.Inv.trapEntry ?_ _
  split <;> exact h.onlyUnguarded rfl

theorem execInhibitTrap (h : s.Inv) (hx : s.execInh (s.translate s.pc) = true) : s.execInhibitTrap.Inv := by
  have hm : s.isMpu = true := (Bool.and_eq_true_iff.mp hx).1
  have ht : State.Inv (({ s with sys := { s.sys with trapXp := true } }.latchTrap s.pc).trapEntry (s.pc + 1)) :=
    State.Inv.trapEntry ((h.withSys _).latchTrap _) _
  unfold State.execInhibitTrap
  dsimp only
  split
  · exact ht.fatalError (by rw [State.trapEntry_isMpu]; exact hm)
  · exact ht

/-- Part 2 of the Write Protect trap, which only the MPU takes (R511, UD8). -/
theorem writeProtectTrap (h : s.Inv) (hm : s.isMpu = true) : s.writeProtectTrap.Inv := by
  have hw : State.Inv { s with wpPending := false } := h.withWpPending hm false
  unfold State.writeProtectTrap
  dsimp only
  split
  · have ht := hw.doubleJam.trapEntry (s.pc + 1)
    split
    · exact ht.fatalError (by rw [State.trapEntry_isMpu]; exact hm)
    · exact ht
  · exact hw.trapEntry _

theorem nmiAck (h : s.Inv) : s.nmiAck.Inv := by
  unfold State.nmiAck
  refine State.Inv.enter ?_ _ _
  exact (h.emit .nmiackTran).dropBuffers.onlyUnguarded rfl

/-- An acknowledge clears a request latch and sets an Interrupt-Under-Service bit (R543). -/
theorem controllerAck (h : s.Inv) : s.controllerAck.Inv := by
  unfold State.controllerAck
  split
  · refine State.Inv.emit (h.withIrq fun hm => ?_) _
    dsimp only
    rw [BitVec.and_assoc, BitVec.and_comm (~~~_), ← BitVec.and_assoc, h.latchEnabled hm]
    exact BitVec.zero_and
  · exact h

theorem intAck (h : s.Inv) : s.intAck.Inv := by
  unfold State.intAck
  refine State.Inv.enter ?_ _ _
  exact (h.controllerAck.emit .iackTran).dropBuffers.onlyUnguarded rfl

/-- The RETI signal touches Interrupt-Under-Service bits alone (R544). -/
theorem retiSignal (h : s.Inv) : s.retiSignal.Inv := by
  have ht := h.emit .retiTran
  unfold State.retiSignal
  dsimp only
  split
  · exact ht.withIrq ht.latchEnabled
  · exact ht

/-- A user reset leaves nothing of what the invariant guards but memory, the RTI generator and the filters (R600). In the CPU variant
it keeps the controllers, which that variant has not. -/
theorem userReset (h : s.Inv) : s.userReset.Inv := by
  unfold State.userReset
  dsimp only
  split
  · exact { h with
      latchEnabled := fun _ => BitVec.zero_and
      oneDus := BitVec.zero_and
      armWindow := Nat.zero_le _
      bufferedPrefix := nofun
      repeatedEd := nofun
      wdtCounts := nofun
      cpuHasNoMpuState := fun _ => ⟨rfl, rfl, rfl, rfl⟩
      mpuNeverUpset := fun _ => rfl }
  · next hm =>
    obtain ⟨-, -, -, hw⟩ := h.cpuHasNoMpuState (by simpa using hm)
    exact { h with
      bufferedPrefix := nofun
      repeatedEd := nofun
      wdtCounts := fun he => absurd (hw.symm.trans he) (by decide)
      cpuHasNoMpuState := fun _ => ⟨rfl, rfl, rfl, hw⟩
      mpuNeverUpset := fun _ => rfl }

end State.Inv

/-! ### Every instruction keeps the invariant -/

/-- Where the result goes on, it goes on from a state that meets the invariant. -/
def KeepsInv (x : Result) : Prop := ∀ t, x = .next t → t.Inv

theorem KeepsInv.next {t : State} (h : t.Inv) : KeepsInv (.next t) := by
  intro u e
  cases e
  exact h

theorem KeepsInv.ite {c : Prop} [Decidable c] {x y : Result} (hx : KeepsInv x) (hy : KeepsInv y) :
    KeepsInv (if c then x else y) := by
  split
  · exact hx
  · exact hy

section

variable {s : State}

/-- An instruction of the MPU runs in the MPU variant; in the other one it takes the trap of R505 (R440 (a)). -/
theorem KeepsInv.mpuOnly (h : s.Inv) {x : Result} (hx : s.isMpu = true → KeepsInv x) :
    KeepsInv (if s.isMpu then x else .next s.absentModule) := by
  split
  · next hm => exact hx hm
  · exact .next (h.illegal2Trap _)

namespace State.Inv

theorem repeatIf (h : s.Inv) (again : Bool) : (s.repeatIf again).Inv := by
  unfold State.repeatIf
  split
  · exact h.onlyUnguarded rfl
  · exact h

theorem repeatB (h : s.Inv) : s.repeatB.Inv := by
  unfold State.repeatB
  split
  · exact h
  · exact h.onlyUnguarded rfl

theorem incMem (h : s.Inv) (la : Word) : (s.incMem la).Inv := State.Inv.setFlags (h.writeByte _ _ _) _

theorem decMem (h : s.Inv) (la : Word) : (s.decMem la).Inv := State.Inv.setFlags (h.writeByte _ _ _) _

theorem rotMem (h : s.Inv) (k : RotKind) (la : Word) : (s.rotMem k la).Inv := State.Inv.setFlags (h.writeByte _ _ _) _

theorem moveByte (h : s.Inv) (step : Word) : (s.moveByte step).Inv :=
  ((((h.writeByte _ _ _).setHl _).setDe _).setBc _).setFlags _

theorem searchByte (h : s.Inv) (step : Word) : (s.searchByte step).Inv :=
  ((h.setHl _).setBc _).setFlags _

theorem inputByte (h : s.Inv) (step : Word) : (s.inputByte step).Inv :=
  ((((h.portRead _).writeByte _ _ _).setR8 _ _).setHl _).setFlags _

theorem outputDown (h : s.Inv) : s.outputDown.Inv := (((h.portWrite _ _).setR8 _ _).setHl _).setFlags _

theorem outputUp (h : s.Inv) : s.outputUp.Inv := (((h.portWrite _ _).setR8 _ _).setHl _).setFlags _

theorem outputMultiple (h : s.Inv) (step : Byte) : (s.outputMultiple step).Inv :=
  ((((h.portWrite _ _).setR8 _ _).setR8 _ _).setHl _).setFlags _

/-- The end of a block load of the translation registers, in the MPU variant (R442). -/
theorem endBlock (h : s.Inv) (hm : s.isMpu = true) (m : Mmu) (hl : Word) : (State.endBlock { s with mmu := m } hl).Inv :=
  (h.withNoSample hm true).onlyUnguarded rfl

/-- The end of LDM (HL),SYS, in the MPU variant (R447, R569). -/
theorem endStatusRead (h : s.Inv) (hm : s.isMpu = true) (y : SysStatus) (n : Nat) :
    State.Inv { s with sys := y, noSample := true, fresh := n } :=
  (h.withNoSample hm true).onlyUnguarded rfl

/-- WDARM opens the arm window for its 256 clocks at most (R445). -/
theorem wdarm (h : s.Inv) : State.Inv { s with wdt := { s.wdt with arm := armClocks } } :=
  { h with armWindow := Nat.le_refl _ }

/-- WDRES starts the count of a period anew, in the MPU variant (R446). -/
theorem wdres (h : s.Inv) (hm : s.isMpu = true) (limit : Byte) :
    State.Inv { s with wdt := { s.wdt with enabled := true, count := 0, limit := limit } } :=
  { h with
    wdtCounts := fun _ => .inl (Nat.mul_pos (Nat.succ_pos _) (by decide))
    cpuHasNoMpuState := State.not_cpu hm }

end State.Inv

/-- Every instruction keeps the invariant. Those that touch registers alone change nothing that it guards. -/
theorem exec_keepsInv (h : s.Inv) (i : Instr) : KeepsInv (exec i s) := by
  cases i with
  | addAR | addAN | addAHl | addAXd | adcAR | adcAN | adcAHl | adcAXd | subAR | subAN | subAHl | subAXd | sbcAR | sbcAN
  | sbcAHl | sbcAXd | andAR | andAN | andAHl | andAXd | xorAR | xorAN | xorAHl | xorAXd | orAR | orAN | orAHl | orAXd
  | cpAR | cpAN | cpAHl | cpAXd | ccf | cpl | decR | incR | neg | scf | tstR | tstN | tstHl
  | adcHlSs | addHlSs | addIxXx | addIyYy | sbcHlSs
  | ldAMn | ldABc | ldADe | ldAI | ldAR | ldRR | ldRN | ldRHl | ldRXd | ldHlFromMn | ldIA | ldRA | ldSpHl | ldSpXy
  | exAfAf | exDeHl | exx | bitR | bitHl | bitXd | resR | setR
  | rlR | rla | rlcR | rlca | rrR | rra | rrcR | rrca | slaR | sraR | srlR
  | jpMn | jpHl | jpXy | jr | ret | retn
  | inAN | inRC | in0RN | outNA | outCR | out0NR | tstioN
  | di | ei | halt | im0 | im1 | im2 | nop | slp => exact .next (h.onlyUnguarded rfl)
  | decDd | incDd | mltSs | ldDdMn | ldDdFromMn => exact .next (h.setRp _ _)
  | decXy | incXy | ldXyMn | ldXyFromMn => exact .next (h.setIdx _ _)
  | popTt => exact .next (h.dropWord.setRpTt _ _)
  | popXy => exact .next (h.dropWord.setIdx _ _)
  | ldMnA | ldBcA | ldDeA | ldHlN | ldXdN | ldHlR | ldXdR | resHl | resXd | setHl | setXd => exact .next (h.writeByte _ _ _)
  | ldMnHl | ldMnSs | ldMnXy => exact .next (h.writeWord _ _ _)
  | pushTt | pushXy => exact .next (h.push16 _)
  | exSpHl => exact .next ((h.writeWord true s.sp s.hl).onlyUnguarded rfl)
  | exSpXy => exact .next ((h.writeWord _ _ _).setIdx _ _)
  | decHl | decXd => exact .next (h.decMem _)
  | incHl | incXd => exact .next (h.incMem _)
  | rlHl | rlXd | rlcHl | rlcXd | rrHl | rrXd | rrcHl | rrcXd | slaHl | slaXd | sraHl | sraXd | srlHl | srlXd =>
    exact .next (h.rotMem _ _)
  | rld | rrd => exact .next (((h.setA _).writeByte _ _ _).setFlags _)
  | daa =>
    unfold exec execDaa
    dsimp only
    split <;> exact .next (h.onlyUnguarded rfl)
  | callMn | rst => exact .next (h.enter _ _)
  | callCcMn => exact .ite (.next (h.enter _ _)) (.next h)
  | djnz => exact .ite (.next (h.setR8 _ _)) (.next (h.onlyUnguarded rfl))
  | jpCcMn | jrCc | retCc => exact .ite (.next (h.onlyUnguarded rfl)) (.next h)
  | reti => exact .next h.leave.retiSignal
  | cpd | cpi => exact .next (h.searchByte _)
  | ldd | ldi => exact .next (h.moveByte _)
  | lddr | ldir => exact .next ((h.moveByte _).repeatIf _)
  | cpdr | cpir => exact .next ((h.searchByte _).repeatIf _)
  | ind | ini => exact .next (h.inputByte _)
  | indr | inir => exact .next (h.inputByte _).repeatB
  | outd => exact .next h.outputDown
  | otdr => exact .next h.outputDown.repeatB
  | outi => exact .next h.outputUp
  | otir => exact .next h.outputUp.repeatB
  | otdm | otim => exact .next (h.outputMultiple _)
  | otdmr | otimr => exact .next (h.outputMultiple _).repeatB
  | ldmHlMmu | ldmHlMmuh =>
    refine .mpuOnly h fun hm => .next ((h.storeBlock _).withNoSample ?_ true)
    rw [State.isMpu_congr (State.storeBlock_params _ _)]
    exact hm
  | ldmMmuHl | ldmMmuhHl | ldmsMmuHl => exact .mpuOnly h fun hm => .next (h.endBlock hm _ _)
  | swap => exact .mpuOnly h fun _ => .next (h.onlyUnguarded rfl)
  | wdarm => exact .mpuOnly h fun _ => .ite (.next h.wdarm) (.next h)
  | wdres => exact .mpuOnly h fun hm => .ite (.next h) (.next (h.wdres hm _))
  | ldmHlSys =>
    have hs := h.storeStatus s.fresh 0 false s.statusBlock
    refine .mpuOnly h fun hm => .next ((hs.endStatusRead ?_ _ _).emit _)
    rw [State.isMpu_congr (State.storeStatus_params _ _ _ _ _)]
    exact hm

end

/-! ### Every event of the environment keeps the invariant -/

/-- A latch that stays set belongs to an enabled request (R541). -/
theorem latchNext_disabled (latch oldBus newBus oldEn newEn open16 : BitVec 16) :
    latchNext latch oldBus newBus oldEn newEn open16 &&& ~~~newEn = 0 := by
  ext k hk
  cases h : newEn[k] <;> simp [latchNext, h]

theorem LevelFilter.run_held {f : LevelFilter} (h : f.held < 11) (pin : Bool) (n : Nat) (ten : Bool) :
    (f.run pin n ten).held < 11 := by
  by_cases hp : pin = f.level
  · rw [hp, LevelFilter.run_self]
    exact h
  · rcases LevelFilter.run_cases n ten hp with ⟨-, e⟩ | ⟨-, hn, e⟩
    · rw [e]
      exact Nat.succ_pos 10
    · rw [e]
      exact hn

theorem LevelFilter.repin_held {f : LevelFilter} (h : f.held < 11) (old new : Bool) : (f.repin old new).held < 11 := by
  unfold LevelFilter.repin
  split
  · exact h
  · exact Nat.succ_pos 10

namespace RtiGen.Sound

variable {g : RtiGen}

theorem start {count : Nat} (h : count < 2 ^ 24) : (RtiGen.start count).Sound :=
  ⟨RtiGen.start_fits h, Nat.succ_pos 10, Nat.zero_le _⟩

theorem repin (h : g.Sound) (c c' : Bool) (d d' : Nat) : (g.repin c c' d d').Sound where
  toFits := RtiGen.repin_fits h.toFits c c' d d'
  held := by
    unfold RtiGen.repin
    dsimp only
    split
    · exact h.held
    · exact Nat.succ_pos 10
  edges := h.edges

/-- Clocks without an edge leave the filter and the count of edges alone (R581). -/
theorem run (h : g.Sound) (dflt : BitVec 24) (divisor n : Nat) : (g.run dflt divisor n).2.Sound where
  toFits := RtiGen.run_fits h.toFits dflt divisor n
  held := by rw [(RtiGen.run_ran g dflt divisor n).held]; exact h.held
  edges := by rw [(RtiGen.run_ran g dflt divisor n).edges]; exact h.edges

end RtiGen.Sound

theorem RtiGen.align_held (g : RtiGen) : g.align.held = g.held := by
  unfold RtiGen.align
  split <;> simp

/-- A recognised edge leaves the filter alone. -/
theorem RtiGen.edge_held (g : RtiGen) (divisor draw : Nat) : (g.edge divisor draw).held = g.held := by
  unfold RtiGen.edge
  dsimp only
  repeat' split
  all_goals simp [RtiGen.align_held]

/-- A recognised edge counts up to two and leaves the filter alone (R581). -/
theorem RtiGen.Sound.edge {g : RtiGen} (h : g.Sound) (divisor draw : Nat) : (g.edge divisor draw).Sound where
  toFits := RtiGen.edge_fits h.toFits divisor draw
  held := by rw [RtiGen.edge_held]; exact h.held
  edges := by rcases g.edge_edges divisor draw with e | e <;> omega

theorem State.refClockFiltered_sound {s : State} (h : s.rti.Sound) : s.refClockFiltered.rti.Sound := by
  have hg : RtiGen.Sound { s.rti with filtered := s.pins.refClock, held := 0 } := { h with held := Nat.succ_pos 10 }
  have he := hg.edge s.pins.rtiDivisor.toNat s.fresh
  unfold State.refClockFiltered
  dsimp only
  split
  · split
    · exact { he with count := rtiPeriod_fits _ }
    · exact he
  · exact hg

theorem State.rtiTime_sound {s : State} (h : s.rti.Sound) (n : Nat) : (s.rtiTime n).rti.Sound := by
  unfold State.rtiTime
  split
  · exact h.run _ _ _
  · split
    · next hn =>
      have hheld : RtiGen.Sound { s.rti with held := s.rti.held + n } := { h with held := hn }
      exact hheld.run _ _ _
    · exact (State.refClockFiltered_sound (s := s.rtiRun _) (h.run _ _ _)).run _ _ _

/-- Time leaves the DUS bits as they are, or ends the grant (R571). -/
theorem State.limiterTime_dus (s : State) (n : Nat) : (s.limiterTime n).dma.dus = s.dma.dus ∨ (s.limiterTime n).dma.dus = 0 := by
  unfold State.limiterTime
  dsimp only
  split
  · exact .inl rfl
  · unfold State.limitGrant
    split
    · exact .inr rfl
    · exact .inl rfl

namespace State.Inv

variable {s t : State}

theorem onlyRti (h : s.Inv) (k : s.OnlyRti t) (hg : t.rti.Sound) : t.Inv := by
  rw [k]
  exact (h.withRti hg).onlyUnguarded rfl

/-- A count that reaches its period requests the reset (R578). -/
theorem watchDogTime (h : s.Inv) (n : Nat) : (s.watchDogTime n).Inv := by
  have harm : s.wdt.arm - n ≤ armClocks := Nat.le_trans (Nat.sub_le _ _) h.armWindow
  unfold State.watchDogTime
  dsimp only
  by_cases hp : s.wdt.enabled ∧ s.wdt.count < watchDogPeriod s.wdt.limit ∧
      watchDogPeriod s.wdt.limit ≤ if s.wdt.enabled then s.wdt.count + n else s.wdt.count
  · rw [if_pos hp]
    exact { h with armWindow := harm, wdtCounts := fun _ => .inr rfl }
  · rw [if_neg hp]
    refine { h with armWindow := harm, wdtCounts := fun he => ?_ }
    rcases h.wdtCounts he with hc | hr
    · exact .inl (Nat.lt_of_not_le fun hle => hp ⟨he, hc, hle⟩)
    · exact .inr hr

theorem rtiTime (h : s.Inv) (n : Nat) : (s.rtiTime n).Inv :=
  h.onlyRti (s.rtiTime_onlyRti n) (State.rtiTime_sound h.rtiSound n)

theorem limiterTime (h : s.Inv) (n : Nat) : (s.limiterTime n).Inv := by
  have hd : (s.limiterTime n).dma.dus &&& ((s.limiterTime n).dma.dus - 1) = 0 := by
    rcases s.limiterTime_dus n with e | e
    · rw [e]
      exact h.oneDus
    · rw [e]
      rfl
  rw [s.limiterTime_onlyLimiter n]
  exact (h.withDma hd).onlyUnguarded rfl

theorem resetBusTime (h : s.Inv) (n : Nat) : (s.resetBusTime n).Inv := by
  have hf := h.withResetFilter (f := (s.resetBusTime n).resetFilter) (LevelFilter.run_held h.resetHeld.1 _ _ _)
    (LevelFilter.run_held h.resetHeld.2 _ _ _)
  rw [s.resetBusTime_onlyResetBus n]
  refine { hf with wdtCounts := fun he => (h.wdtCounts he).imp_right fun hr => ?_ }
  exact State.resetBusTime_resetReq hr n

theorem passTime (h : s.Inv) (n : Nat) : (s.passTime n).Inv := by
  unfold State.passTime
  split
  · exact (((h.watchDogTime n).rtiTime n).limiterTime n).resetBusTime n
  · exact h

/-- In the MPU variant the latches follow the new enables, and the filters start again or go on (R541, R581, R591); the CPU variant has
none of them. -/
theorem setPins (h : s.Inv) (p : Pins) : (s.setPins p).Inv := by
  unfold State.setPins
  split
  · have hg := h.rtiSound.repin s.pins.refClock p.refClock s.pins.rtiDivisor.toNat p.rtiDivisor.toNat
    have hf := (h.withRti hg).withResetFilter
      (f := ⟨s.resetFilter.line1.repin (s.pins.resetBus.getLsbD 1) (p.resetBus.getLsbD 1),
        s.resetFilter.line0.repin (s.pins.resetBus.getLsbD 0) (p.resetBus.getLsbD 0)⟩)
      (LevelFilter.repin_held h.resetHeld.1 _ _) (LevelFilter.repin_held h.resetHeld.2 _ _)
    unfold State.latchPins
    dsimp only
    split <;> exact { hf with latchEnabled := fun _ => latchNext_disabled _ _ _ _ _ _ }
  · next hm => exact { h with latchEnabled := fun hm' => absurd hm' hm }

theorem waitExpires (h : s.Inv) (k : WaitKind) : (s.waitExpires k).Inv := by
  unfold State.waitExpires
  split
  · exact h.onlyUnguarded rfl
  · exact h

theorem freeRegisters (h : s.Inv) : s.freeRegisters.Inv := h.onlyUnguarded rfl

/-- An upset resets the MPU and leaves the CPU variant in an illegal state (R513). -/
theorem faultUpset (h : s.Inv) (la : Word) : (s.faultUpset la).Inv := by
  have hf := h.freeRegisters.emit .faultDetect
  unfold State.faultUpset
  dsimp only
  split
  · exact hf.requestReset.onlyUnguarded rfl
  · next hm => exact { hf with mpuNeverUpset := fun hm' => absurd hm' hm }

/-- The master reset starts the RTI generator and the filters anew, and requests the user reset (R601). -/
theorem masterReset (h : s.Inv) : s.masterReset.Inv := by
  have hf := h.freeRegisters
  unfold State.masterReset
  dsimp only
  refine State.Inv.requestReset ?_
  split
  · have hs : s.freeRegisters.powerOnStatus.Inv := hf.onlyUnguarded rfl
    exact (hs.withRti (.start (rtiPeriod_fits _))).withResetFilter (f := .settled _) (Nat.succ_pos 10) (Nat.succ_pos 10)
  · exact hf

theorem absorb (h : s.Inv) (e : EnvEvent) : (s.absorb e).Inv := by
  cases e with
  | pins p => exact h.setPins p
  | nmi => exact h.onlyUnguarded rfl
  | clocks n => exact h.passTime n
  | resetb =>
    dsimp only [State.absorb]
    split
    · exact h
    · exact h.requestReset
  | clearb => exact h.masterReset
  | faultDetect la => exact h.faultUpset la
  | waitTimeout k => exact h.waitExpires k

theorem absorbAll (h : s.Inv) (es : List EnvEvent) : (s.absorbAll es).Inv :=
  List.foldlRecOn es _ h fun _ hu e _ => hu.absorb e

theorem afterEvents (h : s.Inv) : s.afterEvents.Inv := by
  refine State.Inv.absorbAll ?_ _
  exact h.onlyUnguarded rfl

/-! ### Every boundary keeps the invariant -/

/-- A bus master writes within the address space of the variant (R570, log 34). -/
theorem busWrites (h : s.Inv) (ws : List (Phys × Byte)) : (s.busWrites ws).Inv :=
  List.foldlRecOn (motive := fun m => State.Inv { s with mem := m }) ws _ h
    fun _ hm w _ => hm.store (s.busAddress_lt_addressBound w.1) w.2

/-- A grant sets the one DUS bit of its master (R572). -/
theorem dmaStep (h : s.Inv) (m : Fin 8) (g : DmaRequest) : (s.dmaStep m g).Inv := by
  have hone : BitVec.twoPow 8 m.val &&& (BitVec.twoPow 8 m.val - 1) = 0 := by
    revert m
    decide
  have hw := (h.busWrites g.writes[m]).emit .dmaAck
  unfold State.dmaStep
  dsimp only
  split
  · exact ((hw.withDma hone).emit _).passTime _
  · exact hw

theorem endGrant (h : s.Inv) : s.endGrant.Inv := by
  unfold State.endGrant
  split
  · exact h.withDma BitVec.zero_and
  · exact h.withDma h.oneDus

theorem sleepSample (h : s.Inv) : s.sleepSample.Inv := by
  unfold State.sleepSample
  split
  · exact h.onlyUnguarded rfl
  · exact h

/-- The buffers an instruction leaves hold one of the four bytes of R123, or the bytes of a repeating instruction (R46, R360). -/
theorem settle (h : t.Inv) {i : Instr} {len : Nat} (hf : s.fetched = .instr i len) (next : Word) :
    (s.settle t i next).Inv := by
  refine { h with bufferedPrefix := fun v hv => ?_, repeatedEd := fun v w hvw => ?_ }
  · rw [State.settle_prefetched] at hv
    split at hv
    · next hc =>
      cases hv
      exact hc.2.2.1
    · cases hv
  · rw [State.settle_repeating] at hvw
    split at hvw
    · next hc =>
      cases hvw
      exact eq_ed_of_decode_repeats (s.fetched_eq.symm.trans hf) hc.1
    · cases hvw

theorem runInstruction (h : s.Inv) : KeepsInv s.runInstruction := by
  intro t ht
  rcases s.runInstruction_cases t ht with ⟨-, rfl⟩ | ⟨y, d, -, rfl⟩ | ⟨i, len, u, hf, he, rfl⟩
  · exact h.illegal2Trap _
  · exact h.illegal3Trap _
  · have hpc : (s.setPc (s.pc + BitVec.ofNat 16 len)).Inv := h.onlyUnguarded rfl
    exact (exec_keepsInv hpc i u he).settle hf _

theorem proceed (h : s.Inv) : KeepsInv s.proceed := by
  intro t ht
  rcases s.proceed_cases t ht with ⟨-, rfl⟩ | ⟨hm, -, rfl⟩ | ⟨hx, rfl⟩ | ⟨-, -, -, -, hr⟩
  · exact h
  · exact h.writeProtectTrap hm
  · exact h.execInhibitTrap hx
  · exact h.runInstruction t hr

theorem sampled (h : s.Inv) (d : Option DmaRequest) : KeepsInv (s.sampled d) := by
  intro t ht
  rcases s.sampled_cases t d ht with ⟨m, g, -, rfl⟩ | ⟨-, -, rfl⟩ | ⟨-, -, -, -, rfl⟩ | ⟨-, -, hp⟩
  · exact h.dmaStep m g
  · exact h.endGrant.nmiAck
  · exact h.endGrant.intAck
  · exact h.endGrant.sleepSample.proceed t hp

end State.Inv

/-- Settles O10: the events keep the invariant, and so does each of the three ways the boundary after them can go on. -/
theorem everyStepKeepsTheInvariant : Obligations.EveryStepKeepsTheInvariant := by
  intro s t h ht
  have hu := h.afterEvents
  rcases step_cases s t ht with ⟨-, rfl⟩ | ⟨-, -, hm, -, hp⟩ | ⟨-, -, -, hs⟩
  · exact hu.userReset
  · exact (hu.withNoSample hm false).proceed t hp
  · exact hu.sampled _ t hs

end Sys2Proof.Machine

/-! The decoder and the encoder (30_encoding.md section 2): each instruction of an implementation decodes from its encoding (O1), the
decoder answers nothing else (O2), and ten words of the opcode table decode to their rows (O3). The first is proved over the
instructions; the second over the blocks of the decoder, where an opcode byte is `x ++ y ++ z` by its three fields. -/

namespace Sys2Proof

open Sys2Proof.Machine

/-! ### Words, variants and fields -/

theorem immLow_imm16 (n m : Byte) : immLow (imm16 n m) = n := low_append m n

theorem immHigh_imm16 (n m : Byte) : immHigh (imm16 n m) = m := high_append m n

/-- Every word is the immediate of its two bytes (R129). -/
theorem exists_imm16 (w : Word) : ∃ n m, w = imm16 n m := ⟨immLow w, immHigh w, (high_append_low w).symm⟩

/-- Only the MPU variant has an MPU instruction (R141). -/
theorem Instr.eq_mpu_of_wellFormed {v : Variant} {i : Instr} (h : i.wellFormed v = true) (hm : i.mpuOnly = true) :
    v = .mpu := by
  simpa [Instr.wellFormed, hm] using h

/-- Both variants have every instruction of the base set (R141). -/
theorem Instr.wellFormed_of_base {v : Variant} {i : Instr} (hm : i.mpuOnly = false) : i.wellFormed v = true := by
  simp [Instr.wellFormed, hm]

/-- A three-bit field is one of the eight octal digits. -/
theorem octalCases {motive : BitVec 3 → Prop} (d0 : motive 0) (d1 : motive 1) (d2 : motive 2) (d3 : motive 3)
    (d4 : motive 4) (d5 : motive 5) (d6 : motive 6) (d7 : motive 7) (y : BitVec 3) : motive y := by
  obtain ⟨k, hk⟩ := y
  interval_cases k
  exacts [d0, d1, d2, d3, d4, d5, d6, d7]

/-- A two-bit field is one of the four digits of base four. -/
theorem quaternaryCases {motive : BitVec 2 → Prop} (d0 : motive 0) (d1 : motive 1) (d2 : motive 2) (d3 : motive 3)
    (x : BitVec 2) : motive x := by
  obtain ⟨k, hk⟩ := x
  interval_cases k
  exacts [d0, d1, d2, d3]

/-! ### O1: from an instruction to its bytes and back -/

/-- The decoder on a list of bytes; those past its end read as 0. -/
def decodeBytes (v : Variant) (bs : List Byte) : Decoded :=
  decode v (bs.getD 0 0) (bs.getD 1 0) (bs.getD 2 0) (bs.getD 3 0)

theorem decodeBytes_four (v : Variant) (b0 b1 b2 b3 : Byte) : decodeBytes v [b0, b1, b2, b3] = decode v b0 b1 b2 b3 := rfl

/-- The round trip, one case for each kind of operand: with the operand's code known, the decoder runs on the bytes. An immediate
word is first taken as the two bytes it is encoded in; an MPU instruction first needs its variant. -/
theorem decodeBytes_encode_append {v : Variant} {i : Instr} (h : i.wellFormed v = true) (rest : List Byte) :
    decodeBytes v (encode i ++ rest) = .instr i (encode i).length := by
  cases i
  all_goals simp only [encode, List.cons_append, List.nil_append, decodeBytes, List.getD_cons_zero, List.getD_cons_succ]
  case addAR r | adcAR r | subAR r | sbcAR r | andAR r | xorAR r | orAR r | cpAR r | decR r | incR r | tstR r | ldHlR r
    | ldRN r _ | ldRHl r | inRC r | in0RN r _ | outCR r | out0NR _ r | rlR r | rlcR r | rrR r | rrcR r
    | slaR r | sraR r | srlR r => cases r <;> rfl
  case ldXdR y _ r | ldRXd r y _ => cases y <;> cases r <;> rfl
  case ldRR rd rs => cases rd <;> cases rs <;> rfl
  case adcHlSs k | addHlSs k | addIxXx k | addIyYy k | decDd k | incDd k | mltSs k | sbcHlSs k | popTt k | pushTt k
    | jrCc k _ | retCc k => cases k <;> rfl
  case ldMnSs mn k | ldDdMn k mn | ldDdFromMn k mn | callCcMn k mn | jpCcMn k mn | ldXyMn k mn | ldMnXy mn k | ldXyFromMn k mn =>
    obtain ⟨n, m, rfl⟩ := exists_imm16 mn
    rw [immLow_imm16, immHigh_imm16]
    cases k <;> rfl
  case ldAMn mn | ldMnA mn | ldMnHl mn | ldHlFromMn mn | callMn mn | jpMn mn =>
    obtain ⟨n, m, rfl⟩ := exists_imm16 mn
    rw [immLow_imm16, immHigh_imm16]
    rfl
  case addAXd y _ | adcAXd y _ | subAXd y _ | sbcAXd y _ | andAXd y _ | xorAXd y _ | orAXd y _ | cpAXd y _ | decXd y _ | incXd y _
    | decXy y | incXy y | ldXdN y _ _ | ldSpXy y | popXy y | pushXy y | exSpXy y | rlXd y _ | rlcXd y _ | rrXd y _ | rrcXd y _
    | slaXd y _ | sraXd y _ | srlXd y _ | jpXy y => cases y <;> rfl
  case bitR b r | resR b r | setR b r => cases b using octalCases <;> cases r <;> rfl
  case bitXd b y _ | resXd b y _ | setXd b y _ => cases b using octalCases <;> cases y <;> rfl
  case bitHl b | resHl b | setHl b | rst b => cases b using octalCases <;> rfl
  case ldmHlMmu | ldmHlMmuh | ldmMmuHl | ldmMmuhHl | ldmsMmuHl | swap | wdarm | wdres | ldmHlSys =>
    obtain rfl := Instr.eq_mpu_of_wellFormed h rfl
    rfl
  all_goals rfl

/-- Settles O1: the four bytes are the encoding and what follows it. -/
theorem encodedInstructionsDecodeToThemselves : Obligations.EncodedInstructionsDecodeToThemselves := by
  intro v i b0 b1 b2 b3 hw ⟨rest, hbytes⟩
  rw [← decodeBytes_four, ← hbytes]
  exact decodeBytes_encode_append hw rest

/-- Settles O3, by running the decoder on each word. -/
theorem wordsFromTheTableDecode : Obligations.WordsFromTheTableDecode :=
  ⟨rfl, rfl, rfl, rfl, rfl, rfl, rfl, rfl, rfl, rfl⟩

/-! ### O2: the fields of an opcode byte -/

section
variable (x : BitVec 2) (y z : BitVec 3)

theorem toNat_fields : (x ++ y ++ z).toNat = 64 * x.toNat + 8 * y.toNat + z.toNat := by
  rw [BitVec.toNat_append, BitVec.toNat_append, ← Nat.shiftLeft_add_eq_or_of_lt z.isLt, ← Nat.shiftLeft_add_eq_or_of_lt y.isLt,
    Nat.shiftLeft_eq, Nat.shiftLeft_eq]
  omega

theorem fieldX : (x ++ y ++ z).toNat / 64 = x.toNat := by
  rw [toNat_fields]; omega

theorem fieldY : (x ++ y ++ z).toNat / 8 % 8 = y.toNat := by
  rw [toNat_fields]; omega

theorem fieldZ : (x ++ y ++ z).toNat % 8 = z.toNat := by
  rw [toNat_fields]; omega

end

/-- An opcode byte is its fields x, y and z. -/
theorem exists_fields (b : Byte) : ∃ (x : BitVec 2) (y z : BitVec 3), b = x ++ y ++ z := by
  refine ⟨.ofNat 2 (b.toNat / 64), .ofNat 3 (b.toNat / 8), .ofNat 3 b.toNat, BitVec.eq_of_toNat_eq ?_⟩
  simp only [toNat_fields, BitVec.toNat_ofNat]
  omega

theorem eq_ofNat_of_toNat_eq {b : Byte} {n : Nat} (h : b.toNat = n) : b = BitVec.ofNat 8 n := by
  rw [← h, BitVec.ofNat_toNat, BitVec.setWidth_eq]

/-! ### O2: what the decoder owes its bytes -/

/-- What an answer of the decoder says about its bytes: an instruction stands for its own encoding, and an illegal class for the bytes
of its description (R140). -/
def Decoded.Faithful (v : Variant) (b0 b1 b2 b3 : Byte) : Decoded → Prop
  | .instr i len => i.wellFormed v = true ∧ encode i <+: [b0, b1, b2, b3] ∧ len = (encode i).length
  | .illegal2 =>
    isPrefixByte b0 = true ∧ ¬((b0 = 0xDD ∨ b0 = 0xFD) ∧ b1 = 0xCB) ∧ ∀ c2 c3, decode v b0 b1 c2 c3 = .illegal2
  | .illegal3 y d => b0 = y.byte ∧ b1 = 0xCB ∧ b2 = d

namespace Decoded.Faithful

section
variable {v : Variant} {b0 b1 b2 b3 : Byte} {i : Instr} {len : Nat}

theorem base (hm : i.mpuOnly = false) (he : encode i = [b0, b1, b2, b3].take len) (hl : len = (encode i).length) :
    Faithful v b0 b1 b2 b3 (.instr i len) :=
  ⟨Instr.wellFormed_of_base hm, he ▸ List.take_prefix _ _, hl⟩

theorem mpu (he : encode i = [b0, b1, b2, b3].take len) (hl : len = (encode i).length) :
    Faithful .mpu b0 b1 b2 b3 (.instr i len) :=
  ⟨rfl, he ▸ List.take_prefix _ _, hl⟩

/-- An instruction of the main map that ends in an immediate word. -/
theorem word {f : Word → Instr} (hm : ∀ w, (f w).mpuOnly = false) (he : ∀ w, encode (f w) = [b0, immLow w, immHigh w]) :
    Faithful v b0 b1 b2 b3 (.instr (f (imm16 b1 b2)) 3) := by
  have hbytes : encode (f (imm16 b1 b2)) = [b0, b1, b2] := by rw [he, immLow_imm16, immHigh_imm16]
  exact base (hm _) hbytes (by rw [hbytes]; rfl)

/-- An instruction of two opcode bytes that ends in an immediate word. -/
theorem prefixedWord {f : Word → Instr} (hm : ∀ w, (f w).mpuOnly = false)
    (he : ∀ w, encode (f w) = [b0, b1, immLow w, immHigh w]) : Faithful v b0 b1 b2 b3 (.instr (f (imm16 b2 b3)) 4) := by
  have hbytes : encode (f (imm16 b2 b3)) = [b0, b1, b2, b3] := by rw [he, immLow_imm16, immHigh_imm16]
  exact base (hm _) hbytes (by rw [hbytes]; rfl)

/-- After 0xCB and 0xED the second byte alone can be undefined (R132, R133). -/
theorem undefined (hp : isPrefixByte b0 = true) (hx : b0 ≠ 0xDD ∧ b0 ≠ 0xFD) (hd : ∀ c2 c3, decode v b0 b1 c2 c3 = .illegal2) :
    Faithful v b0 b1 b2 b3 .illegal2 :=
  ⟨hp, fun h => h.1.elim hx.1 hx.2, hd⟩

/-- After 0xCB only the second byte matters (R132). -/
theorem undefinedCb (h : decodeCb b1.toNat = .illegal2) : Faithful v 0xCB b1 b2 b3 .illegal2 :=
  undefined rfl (by decide) fun _ _ => h

/-- After 0xED two operand bytes may follow, but they do not decide whether the second byte is defined (R133). -/
theorem undefinedEd (h : ∀ c2 c3, decodeEd v b1.toNat c2 c3 = .illegal2) : Faithful v 0xED b1 b2 b3 .illegal2 :=
  undefined rfl (by decide) h

/-- After 0xDD or 0xFD, where 0xCB leads to the indexed bit form (R134). -/
theorem undefinedXy {x : Idx} (hb : b1 ≠ 0xCB) (h : ∀ c2 c3, decodeXy x b1.toNat c2 c3 = .illegal2) :
    Faithful v x.byte b1 b2 b3 .illegal2 :=
  ⟨by cases x <;> rfl, fun hcb => hb hcb.2, by cases x <;> exact h⟩

end

end Decoded.Faithful

/-! #### The main map (R131)

Each block is a table of eight rows (z) and eight columns (y), as the decoder reads it; the entries of a row are closed by kind. -/

section
variable {v : Variant} {b1 b2 b3 : Byte} (y z : BitVec 3)

theorem decodeX0_faithful : (decodeX0 y.toNat z.toNat b1 b2).Faithful v (0#2 ++ y ++ z) b1 b2 b3 := by
  cases z using octalCases with
  | d0 | d3 | d4 | d5 | d6 | d7 => cases y using octalCases <;> exact .base rfl rfl rfl
  | d1 =>
    cases y using octalCases
    case d0 | d2 | d4 | d6 => exact .word (fun _ => rfl) (fun _ => rfl)
    all_goals exact .base rfl rfl rfl
  | d2 =>
    cases y using octalCases
    case d4 | d5 | d6 | d7 => exact .word (fun _ => rfl) (fun _ => rfl)
    all_goals exact .base rfl rfl rfl

theorem decodeX1_faithful : (decodeX1 y.toNat z.toNat).Faithful v (1#2 ++ y ++ z) b1 b2 b3 := by
  cases z using octalCases <;> cases y using octalCases <;> exact .base rfl rfl rfl

theorem decodeX2_faithful : (decodeX2 y.toNat z.toNat).Faithful v (2#2 ++ y ++ z) b1 b2 b3 := by
  cases z using octalCases <;> cases y using octalCases <;> exact .base rfl rfl rfl

theorem decodeX3_faithful (hp : isPrefixByte (3#2 ++ y ++ z) = false) :
    (decodeX3 y.toNat z.toNat b1 b2).Faithful v (3#2 ++ y ++ z) b1 b2 b3 := by
  cases z using octalCases with
  | d0 | d1 | d6 | d7 => cases y using octalCases <;> exact .base rfl rfl rfl
  | d2 | d4 => cases y using octalCases <;> exact .word (fun _ => rfl) (fun _ => rfl)
  | d3 =>
    cases y using octalCases
    case d0 => exact .word (fun _ => rfl) (fun _ => rfl)
    case d1 => exact absurd hp (by decide)
    all_goals exact .base rfl rfl rfl
  | d5 =>
    cases y using octalCases
    case d1 => exact .word (fun _ => rfl) (fun _ => rfl)
    case d3 | d5 | d7 => exact absurd hp (by decide)
    all_goals exact .base rfl rfl rfl

theorem decodeMain_faithful {b0 : Byte} (hp : isPrefixByte b0 = false) : (decodeMain b0.toNat b1 b2).Faithful v b0 b1 b2 b3 := by
  obtain ⟨x, y, z, rfl⟩ := exists_fields b0
  simp only [decodeMain, fieldX, fieldY, fieldZ]
  cases x using quaternaryCases with
  | d0 => exact decodeX0_faithful y z
  | d1 => exact decodeX1_faithful y z
  | d2 => exact decodeX2_faithful y z
  | d3 => exact decodeX3_faithful y z hp

end

/-! #### The CB map (R132) -/

section
variable {v : Variant} {b1 b2 b3 : Byte}

theorem decodeCb_faithful : (decodeCb b1.toNat).Faithful v 0xCB b1 b2 b3 := by
  obtain ⟨x, y, z, rfl⟩ := exists_fields b1
  cases x using quaternaryCases with
  | d0 =>
    cases y using octalCases
    case d6 => cases z using octalCases <;> exact .undefinedCb rfl
    all_goals cases z using octalCases <;> exact .base rfl rfl rfl
  | d1 | d2 | d3 => cases y using octalCases <;> cases z using octalCases <;> exact .base rfl rfl rfl

end

/-! #### The ED map (R133) -/

section
variable {v : Variant} {b1 b2 b3 : Byte} (y z : BitVec 3)

theorem decodeEdX0_faithful : (decodeEdX0 y.toNat z.toNat b2).Faithful v 0xED (0#2 ++ y ++ z) b2 b3 := by
  cases z using octalCases with
  | d0 | d1 =>
    cases y using octalCases
    case d6 => exact .undefinedEd fun _ _ => rfl
    all_goals exact .base rfl rfl rfl
  | d4 => cases y using octalCases <;> exact .base rfl rfl rfl
  | d2 | d3 | d5 | d6 | d7 => cases y using octalCases <;> exact .undefinedEd fun _ _ => rfl

theorem decodeEdX1_faithful : (decodeEdX1 v y.toNat z.toNat b2 b3).Faithful v 0xED (1#2 ++ y ++ z) b2 b3 := by
  cases z using octalCases with
  | d0 | d1 =>
    cases y using octalCases
    case d6 => exact .undefinedEd fun _ _ => rfl
    all_goals exact .base rfl rfl rfl
  | d2 => cases y using octalCases <;> exact .base rfl rfl rfl
  | d3 =>
    cases y using octalCases
    case d0 | d2 | d4 | d6 => exact .prefixedWord (f := fun w => .ldMnSs w _) (fun _ => rfl) (fun _ => rfl)
    all_goals exact .prefixedWord (fun _ => rfl) (fun _ => rfl)
  | d4 =>
    cases y using octalCases
    case d2 => exact .undefinedEd fun _ _ => rfl
    all_goals exact .base rfl rfl rfl
  | d5 =>
    cases y using octalCases
    case d0 | d1 => exact .base rfl rfl rfl
    all_goals exact .undefinedEd fun _ _ => rfl
  | d6 =>
    cases y using octalCases
    case d0 | d2 | d3 | d6 => exact .base rfl rfl rfl
    case d1 | d4 => exact .undefinedEd fun _ _ => rfl
    case d5 | d7 =>
      cases v with
      | cpu => exact .undefinedEd fun _ _ => rfl
      | mpu => exact .mpu rfl rfl
  | d7 =>
    cases y using octalCases
    case d6 => exact .undefinedEd fun _ _ => rfl
    case d7 =>
      cases v with
      | cpu => exact .undefinedEd fun _ _ => rfl
      | mpu => exact .mpu rfl rfl
    all_goals exact .base rfl rfl rfl

theorem decodeEdX2_faithful : (decodeEdX2 v y.toNat z.toNat).Faithful v 0xED (2#2 ++ y ++ z) b2 b3 := by
  cases z using octalCases with
  | d0 =>
    cases y using octalCases
    case d0 | d1 | d2 =>
      cases v with
      | cpu => exact .undefinedEd fun _ _ => rfl
      | mpu => exact .mpu rfl rfl
    case d3 => exact .undefinedEd fun _ _ => rfl
    all_goals exact .base rfl rfl rfl
  | d1 =>
    cases y using octalCases
    case d0 | d1 | d2 | d3 => exact .undefinedEd fun _ _ => rfl
    all_goals exact .base rfl rfl rfl
  | d2 =>
    cases y using octalCases
    case d0 | d2 | d3 =>
      cases v with
      | cpu => exact .undefinedEd fun _ _ => rfl
      | mpu => exact .mpu rfl rfl
    case d1 => exact .undefinedEd fun _ _ => rfl
    all_goals exact .base rfl rfl rfl
  | d3 => cases y using octalCases <;> exact .base rfl rfl rfl
  | d4 | d5 | d6 | d7 => cases y using octalCases <;> exact .undefinedEd fun _ _ => rfl

theorem decodeEd_faithful {b1 : Byte} : (decodeEd v b1.toNat b2 b3).Faithful v 0xED b1 b2 b3 := by
  obtain ⟨x, y, z, rfl⟩ := exists_fields b1
  simp only [decodeEd, fieldX, fieldY, fieldZ]
  cases x using quaternaryCases with
  | d0 => exact decodeEdX0_faithful y z
  | d1 => exact decodeEdX1_faithful y z
  | d2 => exact decodeEdX2_faithful y z
  | d3 => exact .undefinedEd fun c2 c3 => by simp only [decodeEd, fieldX]; rfl

end

/-! #### The DD and FD maps (R134) -/

section
variable {v : Variant} {x : Idx} {b2 b3 : Byte}

theorem decodeXCb_faithful : (decodeXCb x b2 b3.toNat).Faithful v x.byte 0xCB b2 b3 := by
  obtain ⟨q, y, z, rfl⟩ := exists_fields b3
  simp only [decodeXCb, fieldX, fieldY, fieldZ]
  cases z using octalCases
  case d6 =>
    cases q using quaternaryCases with
    | d0 =>
      cases y using octalCases
      case d6 => exact ⟨rfl, rfl, rfl⟩
      all_goals exact .base rfl rfl rfl
    | d1 | d2 | d3 => cases y using octalCases <;> exact .base rfl rfl rfl
  all_goals exact ⟨rfl, rfl, rfl⟩

theorem decodeXCb_ne_illegal2 : decodeXCb x b2 b3.toNat ≠ .illegal2 := by
  intro h
  have hf : (decodeXCb x b2 b3.toNat).Faithful .mpu x.byte 0xCB b2 b3 := decodeXCb_faithful
  rw [h] at hf
  obtain ⟨-, hnotBits, -⟩ := hf
  exact hnotBits ⟨by cases x <;> decide, rfl⟩

/-- Whether the second byte is undefined does not depend on the bytes after it (R140). -/
theorem decodeXyMap_illegal2 {op : Nat} (h : decodeXyMap x op b2 b3 = .illegal2) (c2 c3 : Byte) :
    decodeXyMap x op c2 c3 = .illegal2 := by
  unfold decodeXyMap at h ⊢
  split at h
  case h_13 => exact absurd h decodeXCb_ne_illegal2
  case h_19 => rfl
  all_goals exact nomatch h

theorem decodeXy_of_map {op : Nat} (h1 : op / 64 ≠ 1) (h2 : op / 64 ≠ 2) : decodeXy x op b2 b3 = decodeXyMap x op b2 b3 := by
  unfold decodeXy
  split
  · contradiction
  · contradiction
  · rfl

theorem decodeXyX1_faithful (y z : BitVec 3) :
    (decodeXy x (1#2 ++ y ++ z).toNat b2 b3).Faithful v x.byte (1#2 ++ y ++ z) b2 b3 := by
  cases y using octalCases
  case d6 =>
    cases z using octalCases
    case d6 => exact .undefinedXy (by decide) fun _ _ => rfl
    all_goals exact .base rfl rfl rfl
  all_goals
    cases z using octalCases
    case d6 => exact .base rfl rfl rfl
    all_goals exact .undefinedXy (by decide) fun _ _ => rfl

theorem decodeXyX2_faithful (y z : BitVec 3) :
    (decodeXy x (2#2 ++ y ++ z).toNat b2 b3).Faithful v x.byte (2#2 ++ y ++ z) b2 b3 := by
  cases z using octalCases
  case d6 => cases y using octalCases <;> exact .base rfl rfl rfl
  all_goals cases y using octalCases <;> exact .undefinedXy (by decide) fun _ _ => rfl

/-- An undefined second byte of the blocks x = 0 and x = 3 is not 0xCB and stays undefined before any other bytes (R134, R140). -/
theorem undefinedXyMap {b1 : Byte} (h1 : b1.toNat / 64 ≠ 1) (h2 : b1.toNat / 64 ≠ 2)
    (h : decodeXyMap x b1.toNat b2 b3 = .illegal2) : Decoded.Faithful v x.byte b1 b2 b3 .illegal2 := by
  refine .undefinedXy ?notBits fun c2 c3 => ?anyTail
  case notBits =>
    rintro rfl
    exact decodeXCb_ne_illegal2 h
  case anyTail =>
    rw [decodeXy_of_map h1 h2]
    exact decodeXyMap_illegal2 h c2 c3

theorem decodeXyMap_faithful {b1 : Byte} (h1 : b1.toNat / 64 ≠ 1) (h2 : b1.toNat / 64 ≠ 2) :
    (decodeXyMap x b1.toNat b2 b3).Faithful v x.byte b1 b2 b3 := by
  by_cases hundef : decodeXyMap x b1.toNat b2 b3 = .illegal2
  · rw [hundef]
    exact undefinedXyMap h1 h2 hundef
  · revert hundef
    unfold decodeXyMap
    split
    case h_19 => exact fun hdef => absurd rfl hdef
    case h_13 h =>
      obtain rfl := eq_ofNat_of_toNat_eq h
      exact fun _ => decodeXCb_faithful
    case h_5 h | h_8 h =>
      obtain rfl := eq_ofNat_of_toNat_eq h
      exact fun _ => .prefixedWord (fun _ => rfl) (fun _ => rfl)
    case h_6 h =>
      obtain rfl := eq_ofNat_of_toNat_eq h
      exact fun _ => .prefixedWord (f := fun w => .ldMnXy w _) (fun _ => rfl) (fun _ => rfl)
    case h_1 h | h_2 h | h_3 h | h_4 h =>
      obtain rfl := eq_ofNat_of_toNat_eq h
      cases x <;> exact fun _ => .base rfl rfl rfl
    all_goals next h =>
      obtain rfl := eq_ofNat_of_toNat_eq h
      exact fun _ => .base rfl rfl rfl

theorem decodeXy_faithful {b1 : Byte} : (decodeXy x b1.toNat b2 b3).Faithful v x.byte b1 b2 b3 := by
  obtain ⟨q, y, z, rfl⟩ := exists_fields b1
  cases q using quaternaryCases
  case d1 => exact decodeXyX1_faithful y z
  case d2 => exact decodeXyX2_faithful y z
  all_goals
    rw [decodeXy_of_map (by rw [fieldX]; decide) (by rw [fieldX]; decide)]
    exact decodeXyMap_faithful (by rw [fieldX]; decide) (by rw [fieldX]; decide)

end

/-- Every answer of the decoder is faithful to its bytes. -/
theorem decode_faithful (v : Variant) (b0 b1 b2 b3 : Byte) : (decode v b0 b1 b2 b3).Faithful v b0 b1 b2 b3 := by
  unfold decode
  split
  case h_1 h => obtain rfl : b0 = 0xCB := BitVec.eq_of_toNat_eq h; exact decodeCb_faithful
  case h_2 h => obtain rfl : b0 = 0xED := BitVec.eq_of_toNat_eq h; exact decodeEd_faithful
  case h_3 h => obtain rfl : b0 = 0xDD := BitVec.eq_of_toNat_eq h; exact decodeXy_faithful (x := .ix)
  case h_4 h => obtain rfl : b0 = 0xFD := BitVec.eq_of_toNat_eq h; exact decodeXy_faithful (x := .iy)
  case h_5 hcb hed hdd hfd =>
    refine decodeMain_faithful ?_
    simp only [isPrefixByte, Bool.or_eq_false_iff, beq_eq_false_iff_ne, ne_eq, ← BitVec.toNat_inj]
    exact ⟨⟨⟨hcb, hdd⟩, hed⟩, hfd⟩

/-- Settles O2: a faithful answer is the instruction of its bytes, and where the answer is illegal the round trip of O1 leaves no
instruction. -/
theorem decodingAnswersExactlyTheEncodings : Obligations.DecodingAnswersExactlyTheEncodings := by
  intro v b0 b1 b2 b3
  have hf : (decode v b0 b1 b2 b3).Faithful v b0 b1 b2 b3 := decode_faithful v b0 b1 b2 b3
  have unencoded {d2 d3 : Byte} (hd : ∀ i len, decode v b0 b1 d2 d3 ≠ .instr i len) (i : Instr) (hw : i.wellFormed v = true) :
      ¬ encode i <+: [b0, b1, d2, d3] := fun he => hd _ _ (encodedInstructionsDecodeToThemselves v i b0 b1 d2 d3 hw he)
  split
  next i len hd =>
    rw [hd] at hf
    exact hf
  next hd =>
    rw [hd] at hf
    obtain ⟨hp, hx, htail⟩ := hf
    exact ⟨hp, hx, fun i c2 c3 => unencoded (by simp [htail c2 c3]) i⟩
  next y d hd =>
    rw [hd] at hf
    obtain ⟨h0, h1, h2⟩ := hf
    exact ⟨h0, h1, h2, unencoded (by simp [hd])⟩

end Sys2Proof

/-! Loads, stack and exchanges (40_load_exchange.md): the 8-bit loads (O14) and those of I and R (O15), the stores (O16), the 16-bit
loads (O17), PUSH (O18), POP (O19), EX (SP) (O20) and the register exchanges (O21). Each obligation first says, for all its
instructions at once, what an instruction that ends in the shared operation (`setR8`, `writeByte`, `setRp`, …) does; that an instruction
does end in it is its arm of `exec`. -/

namespace Sys2Proof.Machine

open Sys2Proof

/-! ### Registers read back, and what a register write leaves alone -/

theorem State.setRp_other (s : State) (r q : RegSs) (v : Word) (h : q ≠ r) : (s.setRp r v).rp q = s.rp q := by
  cases r <;> cases q
  case bc.bc | de.de | hl.hl | sp.sp => exact absurd rfl h
  all_goals rfl

@[simp] theorem State.setRp_reg_a (s : State) (r : RegSs) (v : Word) : (s.setRp r v).main.a = s.main.a := by cases r <;> rfl

@[simp] theorem State.setRp_flags (s : State) (r : RegSs) (v : Word) : (s.setRp r v).main.f = s.main.f := by cases r <;> rfl

/-- A word register is a pair of the active bank or SP (R125). -/
theorem State.setRp_frame (s : State) (r : RegSs) (v : Word) :
    s.setRp r v = { s with main := (s.setRp r v).main, sp := (s.setRp r v).sp } := by
  cases r <;> rfl

theorem State.setIdx_other (s : State) (y q : Idx) (v : Word) (h : q ≠ y) : (s.setIdx y v).idx q = s.idx q := by
  cases y <;> cases q
  case ix.ix | iy.iy => exact absurd rfl h
  all_goals rfl

theorem State.setIdx_frame (s : State) (y : Idx) (v : Word) :
    s.setIdx y v = { s with ix := (s.setIdx y v).ix, iy := (s.setIdx y v).iy } := by
  cases y <;> rfl

/-! ### Flags -/

/-- F holds every bit of a byte loaded into it (R39, R41). -/
@[simp] theorem Flags.toByte_ofByte (v : Byte) : (Flags.ofByte v).toByte = v := by
  apply BitVec.eq_of_getLsbD_eq
  intro k hk
  simp only [Flags.toByte, Flags.ofByte, BitVec.getLsbD_append, BitVec.getLsbD_ofBool]
  interval_cases k <;> simp

/-- Writing flags writes the six named ones as given (R41). -/
theorem State.setFlags_are {s : State} {f : Flags} {sf z h pv n c : Bool} (hf : f.are sf z h pv n c) :
    (s.setFlags f).main.f.are sf z h pv n c := hf

/-- The flags of LD A,I and LD A,R (R172). -/
theorem loadSpecialFlags_are (f : Flags) (v : Byte) (iff2 : Bool) :
    (loadSpecialFlags f v iff2).are (v.getLsbD 7) (decide (v = 0)) false iff2 false f.c :=
  ⟨BitVec.msb_eq_getLsbD_last v, rfl, rfl, rfl, rfl, rfl⟩

/-! ### Memory writes together with a register write -/

/-- A push moves SP and otherwise only stores (R170). -/
theorem State.push16_onlyStores (s : State) (v : Word) : ({ s with sp := s.sp - 2 } : State).onlyStores (s.push16 v) :=
  s.push16_frame v

section
variable {s t : State} {stack : Bool} {ws : List (Word × Byte)}

theorem State.onlyStores.setHl (h : s.onlyStores t) (v : Word) : (s.setHl v).onlyStores (t.setHl v) :=
  congrArg (State.setHl · v) h

theorem State.onlyStores.setIdx (h : s.onlyStores t) (y : Idx) (v : Word) : (s.setIdx y v).onlyStores (t.setIdx y v) := by
  cases y with
  | ix => exact congrArg (State.setIdx · .ix v) h
  | iy => exact congrArg (State.setIdx · .iy v) h

theorem State.writes.setHl (h : s.writes t stack ws) (v : Word) : s.writes (t.setHl v) stack ws :=
  State.writes_congr h rfl rfl rfl rfl rfl

theorem State.writes.setIdx (h : s.writes t stack ws) (y : Idx) (v : Word) : s.writes (t.setIdx y v) stack ws :=
  State.writes_congr h (by simp) (by simp) (by simp) (by simp) (by simp)

end

/-! ### The obligations -/

/-- Settles O14: every one of these loads ends in `setR8`. -/
theorem byteLoadsWriteOneRegister : Obligations.ByteLoadsWriteOneRegister := by
  intro s loads
  have load {i : Instr} {r : Reg8} {v : Byte} (hi : exec i s = .next (s.setR8 r v)) : loads i r v :=
    ⟨s.setR8 r v, hi, s.setR8_same r v, fun q hq => s.setR8_other r q v hq, s.setR8_flags r v, rfl⟩
  exact ⟨fun _ _ => load rfl, fun _ _ => load rfl, fun _ => load rfl, fun _ _ _ => load rfl, fun _ => load rfl,
    load rfl, load rfl⟩

/-- Settles O15: the two loads of A end in `setFlags` with the flags of R172. -/
theorem specialRegisterLoads : Obligations.SpecialRegisterLoads := by
  intro s loadsA
  have load {i : Instr} {v : Byte}
      (hi : exec i s = .next ((s.setA v).setFlags (loadSpecialFlags s.main.f v s.iff2))) : loadsA i v :=
    ⟨_, hi, rfl, State.setFlags_are (loadSpecialFlags_are s.main.f v s.iff2), rfl⟩
  exact ⟨load rfl, load rfl, rfl, rfl⟩

/-- Settles O16: the 8-bit stores end in `writeByte`, the 16-bit ones in `writeWord`. -/
theorem storesWriteOnlyTheirBytes : Obligations.StoresWriteOnlyTheirBytes := by
  intro s stores word
  have storeByte {i : Instr} {la : Word} {v : Byte} (hi : exec i s = .next (s.writeByte false la v)) : stores i [(la, v)] :=
    ⟨_, hi, s.writeByte_writes false la v, s.writeByte_onlyStores false la v⟩
  have storeWord {i : Instr} {mn w : Word} (hi : exec i s = .next (s.writeWord false mn w)) : stores i (word mn w) :=
    ⟨_, hi, s.writeWord_writes false mn w, s.writeWord_onlyStores false mn w⟩
  exact ⟨fun _ => storeByte rfl, storeByte rfl, storeByte rfl, fun _ => storeByte rfl, fun _ _ _ => storeByte rfl,
    fun _ => storeByte rfl, fun _ _ _ => storeByte rfl,
    fun _ => storeWord rfl, fun _ _ => storeWord rfl, fun _ _ => storeWord rfl⟩

/-- Settles O17: the loads of a pair or SP end in `setRp`, those of an index register in `setIdx`. -/
theorem wordLoadsWriteOneRegister : Obligations.WordLoadsWriteOneRegister := by
  intro s loads loadsIndex
  have load {i : Instr} {r : RegSs} {w : Word} (hi : exec i s = .next (s.setRp r w)) : loads i r w :=
    ⟨_, hi, s.setRp_rp r w, fun q hq => s.setRp_other r q w hq, s.setRp_reg_a r w, s.setRp_flags r w, s.setRp_frame r w⟩
  have loadIndex {i : Instr} {y : Idx} {w : Word} (hi : exec i s = .next (s.setIdx y w)) : loadsIndex i y w :=
    ⟨_, hi, s.setIdx_idx y w, fun q hq => s.setIdx_other y q w hq, s.setIdx_frame y w⟩
  exact ⟨fun _ _ => load rfl, fun _ _ => loadIndex rfl, fun _ => load rfl, fun _ _ => load rfl, fun _ _ => loadIndex rfl,
    load rfl, fun _ => load rfl⟩

/-- Settles O18: both forms end in `push16`. -/
theorem pushStoresBelowTheStackPointer : Obligations.PushStoresBelowTheStackPointer := by
  intro s pushes
  have push {i : Instr} {w : Word} (hi : exec i s = .next (s.push16 w)) : pushes i w :=
    ⟨_, hi, s.push16_writes w, s.push16_onlyStores w⟩
  exact ⟨fun _ => push rfl, fun _ => push rfl⟩

/-- Settles O19: the register takes the word that was on top once SP has moved, and F keeps all eight bits of its byte. -/
theorem popLoadsFromTheStackPointer : Obligations.PopLoadsFromTheStackPointer := by
  intro s w
  refine ⟨⟨s.dropWord.setBc w, rfl, ?bc, rfl⟩, ⟨s.dropWord.setDe w, rfl, ?de, rfl⟩, ⟨s.dropWord.setHl w, rfl, ?hl, rfl⟩,
    ⟨s.dropWord.setAf w, rfl, rfl, ?f, rfl⟩, rfl, rfl⟩
  case bc => exact State.setBc_bc _ w
  case de => exact State.setDe_de _ w
  case hl => exact State.setHl_hl _ w
  case f => exact Flags.toByte_ofByte (low w)

/-- Settles O20: the word write at SP stores, and the register write after it, which takes the word read before, keeps what was stored. -/
theorem exchangeWithTheStackTop : Obligations.ExchangeWithTheStackTop := by
  intro s old
  have stored (w : Word) : s.writes (s.writeWord true s.sp w) true (old w) := s.writeWord_writes true s.sp w
  have only (w : Word) : s.onlyStores (s.writeWord true s.sp w) := s.writeWord_onlyStores true s.sp w
  exact ⟨⟨_, rfl, (stored s.hl).setHl s.top, State.setHl_hl _ s.top, (only s.hl).setHl s.top⟩,
    ⟨_, rfl, (stored s.ix).setIdx .ix s.top, (only s.ix).setIdx .ix s.top⟩,
    ⟨_, rfl, (stored s.iy).setIdx .iy s.top, (only s.iy).setIdx .iy s.top⟩⟩

/-- Settles O21: each exchange permutes registers in pairs, so done twice it gives back both banks register by register. -/
theorem registerExchangesUndoThemselves : Obligations.RegisterExchangesUndoThemselves := by
  intro s
  refine ⟨⟨_, rfl, ?afTwice, rfl⟩, ⟨_, rfl, ?deHlTwice, ?de, ?hl, rfl⟩, ⟨_, rfl, ?exxTwice, rfl⟩⟩
  case de => exact (rfl : s.main.h ++ s.main.l = s.hl)
  case hl => exact (rfl : s.main.d ++ s.main.e = s.de)
  case afTwice | deHlTwice | exxTwice => rfl

end Sys2Proof.Machine

/-! 8-bit arithmetic and logic (41_arith8.md): the sums (O22), the differences (O23), CP and TST (O24), AND, XOR and OR (O25), INC
and DEC (O26), CCF, SCF and CPL (O27) and DAA (O28, O29). What a flag helper of R220 computes is said once, by arithmetic on the numbers
the bytes stand for; each obligation then says what an instruction that ends in the shared operation does. -/

namespace Sys2Proof.Machine

open Sys2Proof

/-! ### `add8` and its flags (R220) -/

section
variable (f : Flags) (a b : Byte) (cin : Bool)

theorem add8_toNat : (add8 a b cin).toNat = (a.toNat + b.toNat + cin.toNat) % 256 := BitVec.toNat_ofNat _ _

/-- Bit 7 of a byte is set in the upper half of its range. -/
theorem byte_msb (v : Byte) : v.msb = decide (128 ≤ v.toNat) := BitVec.msb_eq_decide v

theorem byte_beq_zero (v : Byte) : (v == 0) = decide (v.toNat = 0) :=
  Bool.eq_iff_iff.mpr (by simp [BitVec.toNat_eq])

/-- The signed number a byte stands for, as a case split on its unsigned one. -/
theorem byte_toInt (v : Byte) : v.toInt = if v.toNat < 128 then (v.toNat : Int) else v.toNat - 256 := by
  rw [BitVec.toInt_eq_toNat_cond]
  split <;> split <;> omega

/-- P/V of `add8` is the signed sum out of range. -/
theorem add8_overflow :
    ((a.msb == b.msb) && ((add8 a b cin).msb != a.msb)) =
      decide (a.toInt + b.toInt + cin.toNat < -128 ∨ 127 < a.toInt + b.toInt + cin.toNat) := by
  have ha := a.isLt
  have hb := b.isLt
  have hc := cin.toNat_le
  rw [Bool.eq_iff_iff]
  simp only [byte_msb, byte_toInt, add8_toNat, Bool.and_eq_true, beq_iff_eq, bne_iff_ne, ne_eq, decide_eq_decide, not_iff,
    decide_eq_true_eq]
  split <;> split <;> omega

theorem incFlags_are :
    (incFlags f a b cin).are (decide (128 ≤ (a.toNat + b.toNat + cin.toNat) % 256))
      (decide ((a.toNat + b.toNat + cin.toNat) % 256 = 0)) (decide (15 < a.toNat % 16 + b.toNat % 16 + cin.toNat))
      (decide (a.toInt + b.toInt + cin.toNat < -128 ∨ 127 < a.toInt + b.toInt + cin.toNat)) false f.c :=
  ⟨byte_msb _, byte_beq_zero _, rfl, add8_overflow a b cin, rfl, rfl⟩

theorem addFlags_are :
    (addFlags f a b cin).are (decide (128 ≤ (a.toNat + b.toNat + cin.toNat) % 256))
      (decide ((a.toNat + b.toNat + cin.toNat) % 256 = 0)) (decide (15 < a.toNat % 16 + b.toNat % 16 + cin.toNat))
      (decide (a.toInt + b.toInt + cin.toNat < -128 ∨ 127 < a.toInt + b.toInt + cin.toNat)) false
      (decide (255 < a.toNat + b.toNat + cin.toNat)) := by
  obtain ⟨hs, hz, hh, hpv, hn, -⟩ := incFlags_are f a b cin
  exact ⟨hs, hz, hh, hpv, hn, rfl⟩

/-! ### `sub8` and its flags (R220) -/

theorem sub8_toNat : ((sub8 a b cin).toNat : Int) = ((a.toNat : Int) - b.toNat - cin.toNat) % 256 := by
  have hc := cin.toNat_le
  simp only [sub8, BitVec.toNat_sub, BitVec.toNat_ofNat]
  omega

theorem sub8_msb : (sub8 a b cin).msb = decide (128 ≤ ((a.toNat : Int) - b.toNat - cin.toNat) % 256) := by
  rw [byte_msb, ← sub8_toNat, decide_eq_decide]
  omega

theorem sub8_beq_zero : (sub8 a b cin == 0) = decide (((a.toNat : Int) - b.toNat - cin.toNat) % 256 = 0) := by
  rw [byte_beq_zero, ← sub8_toNat, decide_eq_decide]
  omega

/-- P/V of `sub8` is the signed difference out of range. -/
theorem sub8_overflow :
    ((a.msb != b.msb) && ((sub8 a b cin).msb != a.msb)) =
      decide (a.toInt - b.toInt - cin.toNat < -128 ∨ 127 < a.toInt - b.toInt - cin.toNat) := by
  have ha := a.isLt
  have hb := b.isLt
  have hc := cin.toNat_le
  rw [Bool.eq_iff_iff]
  simp only [sub8_msb, byte_msb a, byte_msb b, byte_toInt, Bool.and_eq_true, bne_iff_ne, ne_eq, decide_eq_decide, not_iff,
    decide_eq_true_eq]
  split <;> split <;> omega

theorem decFlags_are :
    (decFlags f a b cin).are (decide (128 ≤ ((a.toNat : Int) - b.toNat - cin.toNat) % 256))
      (decide (((a.toNat : Int) - b.toNat - cin.toNat) % 256 = 0)) (decide (a.toNat % 16 < b.toNat % 16 + cin.toNat))
      (decide (a.toInt - b.toInt - cin.toNat < -128 ∨ 127 < a.toInt - b.toInt - cin.toNat)) true f.c :=
  ⟨sub8_msb a b cin, sub8_beq_zero a b cin, rfl, sub8_overflow a b cin, rfl, rfl⟩

theorem subFlags_are :
    (subFlags f a b cin).are (decide (128 ≤ ((a.toNat : Int) - b.toNat - cin.toNat) % 256))
      (decide (((a.toNat : Int) - b.toNat - cin.toNat) % 256 = 0)) (decide (a.toNat % 16 < b.toNat % 16 + cin.toNat))
      (decide (a.toInt - b.toInt - cin.toNat < -128 ∨ 127 < a.toInt - b.toInt - cin.toNat)) true
      (decide ((a.toNat : Int) - b.toNat - cin.toNat < 0)) := by
  obtain ⟨hs, hz, hh, hpv, hn, -⟩ := decFlags_are f a b cin
  have hc : decide (a.toNat < b.toNat + cin.toNat) = decide ((a.toNat : Int) - b.toNat - cin.toNat < 0) :=
    decide_eq_decide.mpr (by omega)
  exact ⟨hs, hz, hh, hpv, hn, hc⟩

/-- Without a borrow coming in, Z says that the two bytes are equal (R226). -/
theorem subFlags_noBorrow_are :
    (subFlags f a b false).are (decide (128 ≤ ((a.toNat : Int) - b.toNat) % 256)) (decide (a = b))
      (decide (a.toNat % 16 < b.toNat % 16)) (decide (a.toInt - b.toInt < -128 ∨ 127 < a.toInt - b.toInt)) true
      (decide (a.toNat < b.toNat)) := by
  obtain ⟨hs, hz, hh, hpv, hn, -⟩ := subFlags_are f a b false
  simp only [Bool.toNat_false, Nat.cast_zero, sub_zero] at hs hz hpv
  have heq : ((a.toNat : Int) - b.toNat) % 256 = 0 ↔ a = b := by
    rw [BitVec.toNat_eq]
    omega
  exact ⟨hs, hz.trans (decide_eq_decide.mpr heq), hh, hpv, hn, rfl⟩

end

/-! ### Parity and the flags of `logic8` (R220) -/

/-- Folding exclusive or over a list counts its true elements modulo 2. -/
theorem foldl_xor_eq_countP {α : Type} (p : α → Bool) (l : List α) (acc : Bool) :
    l.foldl (fun q k => xor q (p k)) acc = xor acc (l.countP p % 2 != 0) := by
  induction l generalizing acc with
  | nil => simp
  | cons k l ih =>
    rw [List.foldl_cons, ih, List.countP_cons]
    cases p k with
    | false => simp
    | true =>
      rcases Nat.mod_two_eq_zero_or_one (l.countP p) with h | h <;> simp [Nat.add_mod, h]

/-- The model's parity, a count of one bits, is the exclusive or of the bits (R15). -/
theorem parity_eq_evenOnes (v : Byte) : parity v = evenOnes v := by
  rw [evenOnes, foldl_xor_eq_countP, Bool.true_xor, bne, Bool.not_not, parity]

theorem logicFlags_are (f : Flags) (r : Byte) (h : Bool) :
    (logicFlags f r h).are (r.getLsbD 7) (decide (r = 0)) h (evenOnes r) false false :=
  ⟨BitVec.msb_eq_getLsbD_last r, rfl, rfl, parity_eq_evenOnes r, rfl, rfl⟩

/-! ### The accumulator's obligations -/

/-- Settles O22: every form of ADD and ADC ends in `addA`. -/
theorem additionsSetSumAndFlags : Obligations.AdditionsSetSumAndFlags := by
  intro s a adds cf
  have add {i : Instr} {v : Byte} {cin : Bool} (hi : exec i s = .next (s.addA v cin)) : adds i v cin :=
    ⟨s.addA v cin, hi, add8_toNat a v cin, State.setFlags_are (addFlags_are s.main.f a v cin), rfl⟩
  exact ⟨fun _ => add rfl, fun _ => add rfl, add rfl, fun _ _ => add rfl,
    fun _ => add rfl, fun _ => add rfl, add rfl, fun _ _ => add rfl⟩

/-- Settles O23: SUB and SBC end in `subA`, and NEG in the same with 0 in the place of A (R231). -/
theorem subtractionsSetDifferenceAndFlags : Obligations.SubtractionsSetDifferenceAndFlags := by
  intro s subtracts a cf
  have subtract {i : Instr} {a v : Byte} {cin : Bool}
      (hi : exec i s = .next ((s.setA (sub8 a v cin)).setFlags (subFlags s.main.f a v cin))) : subtracts i a v cin :=
    ⟨_, hi, sub8_toNat a v cin, State.setFlags_are (subFlags_are s.main.f a v cin), rfl⟩
  exact ⟨fun _ => subtract rfl, fun _ => subtract rfl, subtract rfl, fun _ _ => subtract rfl,
    fun _ => subtract rfl, fun _ => subtract rfl, subtract rfl, fun _ _ => subtract rfl, subtract rfl⟩

/-- Settles O24: CP ends in `compareA` and TST in `testA`, which write flags alone. -/
theorem comparesAndTestsChangeOnlyFlags : Obligations.ComparesAndTestsChangeOnlyFlags := by
  intro s a onlyFlags compares tests
  have compare {i : Instr} {v : Byte} (hi : exec i s = .next (s.compareA v)) : compares i v :=
    ⟨s.compareA v, hi, rfl, State.setFlags_are (subFlags_noBorrow_are s.main.f a v)⟩
  have test {i : Instr} {v : Byte} (hi : exec i s = .next (s.testA v)) : tests i v :=
    ⟨s.testA v, hi, rfl, State.setFlags_are (logicFlags_are s.main.f (a &&& v) true)⟩
  exact ⟨fun _ => compare rfl, fun _ => compare rfl, compare rfl, fun _ _ => compare rfl,
    fun _ => test rfl, fun _ => test rfl, test rfl⟩

/-- Settles O25: the three operations end in `logicA` with a result that is formed bit by bit. -/
theorem logicCombinesBitByBit : Obligations.LogicCombinesBitByBit := by
  intro s a combines
  have combine {i : Instr} {op : Bool → Bool → Bool} {h : Bool} {v r : Byte} (hi : exec i s = .next (s.logicA r h))
      (hr : ∀ k, r.getLsbD k = op (a.getLsbD k) (v.getLsbD k)) : combines i op h v :=
    ⟨s.logicA r h, hi, fun k _ => hr k, State.setFlags_are (logicFlags_are s.main.f r h), rfl⟩
  have conj (v : Byte) (k : Nat) : (a &&& v).getLsbD k = and (a.getLsbD k) (v.getLsbD k) := BitVec.getLsbD_and
  have excl (v : Byte) (k : Nat) : (a ^^^ v).getLsbD k = xor (a.getLsbD k) (v.getLsbD k) := BitVec.getLsbD_xor
  have disj (v : Byte) (k : Nat) : (a ||| v).getLsbD k = or (a.getLsbD k) (v.getLsbD k) := BitVec.getLsbD_or
  exact ⟨fun _ => combine rfl (conj _), fun _ => combine rfl (conj _), combine rfl (conj _), fun _ _ => combine rfl (conj _),
    fun _ => combine rfl (excl _), fun _ => combine rfl (excl _), combine rfl (excl _), fun _ _ => combine rfl (excl _),
    fun _ => combine rfl (disj _), fun _ => combine rfl (disj _), combine rfl (disj _), fun _ _ => combine rfl (disj _)⟩

/-- Settles O27: CCF and SCF write flags alone; the exclusive or with 0xFF, which CPL takes, is the complement. -/
theorem carryAndComplementOperations : Obligations.CarryAndComplementOperations := by
  intro s f sets
  refine ⟨⟨_, rfl, rfl, ⟨rfl, rfl, ?halfCarry, rfl, rfl, rfl⟩, rfl⟩, ⟨_, rfl, rfl, ⟨rfl, rfl, rfl, rfl, rfl, rfl⟩, rfl⟩,
    ⟨_, rfl, ?complement, ⟨rfl, rfl, rfl, rfl, rfl, rfl⟩, rfl⟩⟩
  case halfCarry =>
    cases s.params.ccfMode with
    | z80 => exact (Bool.true_and f.c).symm
    | z180 => exact (Bool.false_and f.c).symm
  case complement =>
    have hnot : s.main.a ^^^ 0xFF = ~~~s.main.a := BitVec.xor_allOnes
    exact (congrArg BitVec.toNat hnot).trans BitVec.toNat_not

/-! ### INC and DEC -/

theorem add8_one (v : Byte) : add8 v 1 false = v + 1 := rfl

theorem sub8_one (v : Byte) : sub8 v 1 false = v + 0xFF := by
  simp only [sub8]
  bv_omega

/-- The flags of an increment: H is a carry out of bit 3, P/V the step from 127 to -128 (R230). -/
theorem incFlags_one_are (f : Flags) (v : Byte) :
    (incFlags f v 1 false).are (decide (128 ≤ (v.toNat + 1) % 256)) (decide ((v.toNat + 1) % 256 = 0))
      (decide (v.toNat % 16 = 15)) (decide (v.toNat = 0x7F)) false f.c := by
  obtain ⟨hs, hz, hh, hpv, hn, hc⟩ := incFlags_are f v 1 false
  have hv := v.isLt
  refine ⟨hs, hz, hh.trans (decide_eq_decide.mpr ?half), hpv.trans (decide_eq_decide.mpr ?overflow), hn, hc⟩
  case half => simp; omega
  case overflow =>
    simp only [byte_toInt v]
    split <;> simp <;> omega

/-- The flags of a decrement: H is a borrow into bit 3, P/V the step from -128 to 127 (R229). -/
theorem decFlags_one_are (f : Flags) (v : Byte) :
    (decFlags f v 1 false).are (decide (128 ≤ (v.toNat + 255) % 256)) (decide ((v.toNat + 255) % 256 = 0))
      (decide (v.toNat % 16 = 0)) (decide (v.toNat = 0x80)) true f.c := by
  obtain ⟨hs, hz, hh, hpv, hn, hc⟩ := decFlags_are f v 1 false
  have hv := v.isLt
  refine ⟨hs.trans (decide_eq_decide.mpr ?sign), hz.trans (decide_eq_decide.mpr ?zero), hh.trans (decide_eq_decide.mpr ?half),
    hpv.trans (decide_eq_decide.mpr ?overflow), hn, hc⟩
  case sign => simp; omega
  case zero => simp; omega
  case half => simp
  case overflow =>
    simp only [byte_toInt v]
    split <;> simp <;> omega


/-- The flags of an INC of memory, by the byte itself. -/
theorem incFlags_one_are_byte (f : Flags) (v : Byte) :
    (incFlags f v 1 false).are ((v + 1).getLsbD 7) (decide (v + 1 = 0)) (decide (v.toNat % 16 = 15)) (decide (v = 0x7F)) false
      f.c := by
  obtain ⟨-, -, hh, hpv, hn, hc⟩ := incFlags_one_are f v
  have hv : v.toNat = 0x7F ↔ v = 0x7F := BitVec.toNat_inj (y := 0x7F#8)
  rw [← add8_one]
  exact ⟨BitVec.msb_eq_getLsbD_last (add8 v 1 false), rfl, hh, hpv.trans (decide_eq_decide.mpr hv), hn, hc⟩

/-- The flags of a DEC of memory, by the byte itself. -/
theorem decFlags_one_are_byte (f : Flags) (v : Byte) :
    (decFlags f v 1 false).are ((v + 0xFF).getLsbD 7) (decide (v + 0xFF = 0)) (decide (v.toNat % 16 = 0)) (decide (v = 0x80)) true
      f.c := by
  obtain ⟨-, -, hh, hpv, hn, hc⟩ := decFlags_one_are f v
  have hv : v.toNat = 0x80 ↔ v = 0x80 := BitVec.toNat_inj (y := 0x80#8)
  rw [← sub8_one]
  exact ⟨BitVec.msb_eq_getLsbD_last (sub8 v 1 false), rfl, hh, hpv.trans (decide_eq_decide.mpr hv), hn, hc⟩

section
variable {s t : State}

theorem State.onlyStores.main_eq (h : s.onlyStores t) : t.main = s.main := by
  rw [h]

theorem State.onlyStores.fresh_eq (h : s.onlyStores t) : t.fresh = s.fresh := by
  rw [h]

theorem State.onlyStores.setFlags (h : s.onlyStores t) (f : Flags) : (s.setFlags f).onlyStores (t.setFlags f) :=
  congrArg (State.setFlags · f) h

theorem State.writes.setFlags {stack : Bool} {ws : List (Word × Byte)} (h : s.writes t stack ws) (f : Flags) :
    s.writes (t.setFlags f) stack ws :=
  State.writes_congr h rfl rfl rfl rfl rfl

/-- Stores after new flags: the flags may as well be read off the end state. -/
theorem State.onlyStores.takeFlags {f : Flags} (h : (s.setFlags f).onlyStores t) :
    { s with main := { s.main with f := t.main.f }, fresh := t.fresh }.onlyStores t := by
  have hstart : ({ s with main := { s.main with f := t.main.f }, fresh := t.fresh } : State) = s.setFlags f := by
    rw [h.main_eq, h.fresh_eq]
    rfl
  rw [hstart]
  exact h

end

/-- Settles O26: the register forms end in `setR8` and `setFlags`, the memory forms in `writeByte` and `setFlags`. -/
theorem byteStepsKeepCarry : Obligations.ByteStepsKeepCarry := by
  intro s steps stepsMemory
  have step {i : Instr} {r : Reg8} {v : Byte} {f : Flags} {res : Nat} {h pv n : Bool}
      (hi : exec i s = .next ((s.setR8 r v).setFlags f)) (hv : v.toNat = res)
      (hf : f.are (decide (128 ≤ res)) (decide (res = 0)) h pv n s.main.f.c) : steps i r res h pv n := by
    refine ⟨_, hi, by simpa using hv, fun q hq => ?_, State.setFlags_are hf, rfl⟩
    rw [State.setFlags_r8, State.setR8_other s r q v hq]
  have stored (la : Word) (v : Byte) (f : Flags) : s.writes ((s.writeByte false la v).setFlags f) false [(la, v)] :=
    (s.writeByte_writes false la v).setFlags f
  have only (la : Word) (v : Byte) (f : Flags) : (s.setFlags f).onlyStores ((s.writeByte false la v).setFlags f) :=
    (s.writeByte_onlyStores false la v).setFlags f
  have incMem {i : Instr} {la : Word} (hi : exec i s = .next (s.incMem la)) : stepsMemory i la 1 :=
    ⟨_, hi, stored la _ _, State.setFlags_are (incFlags_one_are_byte s.main.f (s.readByte la)), (only la _ _).takeFlags⟩
  have decMem {i : Instr} {la : Word} (hi : exec i s = .next (s.decMem la)) : stepsMemory i la 0xFF := by
    refine ⟨_, hi, ?_, State.setFlags_are (decFlags_one_are_byte s.main.f (s.readByte la)), (only la _ _).takeFlags⟩
    rw [← sub8_one]
    exact stored la _ _
  have incReg (r : Reg8) := step (i := .incR r) (r := r) rfl (add8_toNat (s.r8 r) 1 false) (incFlags_one_are s.main.f (s.r8 r))
  have decReg (r : Reg8) := step (i := .decR r) (r := r) rfl
    ((congrArg BitVec.toNat (sub8_one (s.r8 r))).trans (BitVec.toNat_add _ _)) (decFlags_one_are s.main.f (s.r8 r))
  exact ⟨fun r => ⟨incReg r, decReg r⟩, incMem rfl, fun _ _ => incMem rfl, decMem rfl, fun _ _ => decMem rfl⟩

/-! ### DAA and its table (R228) -/

theorem DaaRow.applies_iff {row : DaaRow} {f : Flags} {a : Byte} :
    row.applies f a = true ↔
      (row.n = f.n ∧ row.c = f.c ∧ row.h = f.h) ∧ (row.highFrom ≤ a.toNat / 16 ∧ a.toNat / 16 ≤ row.highTo) ∧
        row.lowFrom ≤ a.toNat % 16 ∧ a.toNat % 16 ≤ row.lowTo := by
  simp [DaaRow.applies, and_assoc]

/-- Two rows that never apply together: they differ in a flag, or their ranges of a nibble do not meet. -/
abbrev DaaRow.Apart (row other : DaaRow) : Prop :=
  row.n ≠ other.n ∨ row.c ≠ other.c ∨ row.h ≠ other.h ∨ row.highTo < other.highFrom ∨ other.highTo < row.highFrom ∨
    row.lowTo < other.lowFrom ∨ other.lowTo < row.lowFrom

theorem daaTable_apart : ∀ row ∈ daaTable, ∀ other ∈ daaTable, row ≠ other → row.Apart other := by decide

/-- At most one row of the table applies. -/
theorem daaTable_unique {row other : DaaRow} {f : Flags} {a : Byte} (hr : row ∈ daaTable) (ho : other ∈ daaTable)
    (har : row.applies f a = true) (hao : other.applies f a = true) : row = other := by
  by_contra hne
  have hapart : row.Apart other := daaTable_apart row hr other ho hne
  obtain ⟨⟨hn, hc, hh⟩, hhigh, hlow⟩ := DaaRow.applies_iff.mp har
  obtain ⟨⟨kn, kc, kh⟩, khigh, klow⟩ := DaaRow.applies_iff.mp hao
  simp only [DaaRow.Apart, hn.trans kn.symm, hc.trans kc.symm, hh.trans kh.symm, ne_eq, not_true_eq_false, false_or] at hapart
  omega

/-- The row DAA uses is the one that applies, wherever in the table it stands. -/
theorem daaRow_eq_some {row : DaaRow} {f : Flags} {a : Byte} (hr : row ∈ daaTable) (har : row.applies f a = true) :
    daaRow f a = some row := by
  cases hfound : daaRow f a with
  | none => exact absurd har (List.find?_eq_none.mp hfound row hr)
  | some other =>
    have hao : other.applies f a = true := List.find?_some (p := fun r : DaaRow => r.applies f a) hfound
    rw [daaTable_unique hr (List.mem_of_find?_eq_some hfound) har hao]

/-- The flags of DAA where `row` of the table applies: H is free (D33; log 10). -/
def daaFlags (f : Flags) (a : Byte) (row : DaaRow) (fresh : Nat) : Flags :=
  { f with
    s := (a + row.addend).msb
    z := a + row.addend == 0
    h := Config.freeBit fresh .daaH
    pv := parity (a + row.addend)
    c := row.carry }

/-- The flags of DAA outside the table: all free but N (UD2; log 10). -/
def daaFreeFlags (f : Flags) (fresh : Nat) : Flags :=
  { f with
    s := Config.freeBit fresh .daaS
    z := Config.freeBit fresh .daaZ
    h := Config.freeBit fresh .daaH
    pv := Config.freeBit fresh .daaPv
    c := Config.freeBit fresh .daaC }

section
variable {s : State} {row : DaaRow}

theorem exec_daa_of_row (h : daaRow s.main.f s.main.a = some row) :
    exec .daa s = .next ((s.setA (s.main.a + row.addend)).setFlags (daaFlags s.main.f s.main.a row s.fresh)) := by
  change execDaa s = _
  simp only [execDaa, h, daaFlags]

theorem exec_daa_of_noRow (h : daaRow s.main.f s.main.a = none) :
    exec .daa s = .next ((s.setA (Config.freeByte s.fresh .daaA)).setFlags (daaFreeFlags s.main.f s.fresh)) := by
  change execDaa s = _
  simp only [execDaa, h, daaFreeFlags]

/-- DAA does what a row that applies says. -/
theorem exec_daa_of_applies (hr : row ∈ daaTable) (har : row.applies s.main.f s.main.a = true) :
    exec .daa s = .next ((s.setA (s.main.a + row.addend)).setFlags (daaFlags s.main.f s.main.a row s.fresh)) :=
  exec_daa_of_row (daaRow_eq_some hr har)

end

/-- Settles O28: the row DAA uses is the one that applies, and outside the table DAA completes with free values. -/
theorem decimalAdjustFollowsTheTable : Obligations.DecimalAdjustFollowsTheTable := by
  intro s
  cases h : daaRow s.main.f s.main.a with
  | none =>
    refine ⟨_, exec_daa_of_noRow h, rfl, rfl, fun row hr har => ?_⟩
    have hsome : daaRow s.main.f s.main.a = some row := daaRow_eq_some hr har
    simp [h] at hsome
  | some used =>
    refine ⟨_, exec_daa_of_row h, rfl, rfl, fun row hr har => ?_⟩
    obtain rfl : used = row := Option.some.inj (h.symm.trans (daaRow_eq_some hr har))
    exact ⟨rfl, rfl, BitVec.msb_eq_getLsbD_last (s.main.a + used.addend), rfl, parity_eq_evenOnes (s.main.a + used.addend)⟩

/-! ### DAA after an addition or a subtraction of packed decimal bytes -/

/-- A row of the table applies to `f` and `a`, and takes them to the digits `tens` and `ones` and to `carry`. -/
def DaaTableGives (f : Flags) (a : Byte) (tens ones : Nat) (carry : Bool) : Prop :=
  ∃ row ∈ daaTable, row.applies f a = true ∧ (a + row.addend).toNat = 16 * tens + ones ∧ row.carry = carry

theorem daaTableGives_of_row {f : Flags} {a : Byte} {tens ones : Nat} {carry : Bool} (k : Fin 13)
    (h : daaTable[k].applies f a = true ∧ (a + daaTable[k].addend).toNat = 16 * tens + ones ∧ daaTable[k].carry = carry) :
    DaaTableGives f a tens ones carry :=
  ⟨daaTable[k], List.getElem_mem k.isLt, h⟩

/-- DAA gives what the table gives. -/
theorem exec_daa_of_gives {t u : State} {tens ones : Nat} {carry : Bool}
    (h : DaaTableGives t.main.f t.main.a tens ones carry) (hu : exec .daa t = .next u) :
    u.main.a.toNat = 16 * tens + ones ∧ u.main.f.c = carry := by
  obtain ⟨row, hr, har, hres, hcarry⟩ := h
  obtain rfl := Host.Outcome.next.inj ((exec_daa_of_applies hr har).symm.trans hu)
  exact ⟨hres, hcarry⟩

section
variable {f : Flags} {a : Byte} {high low tens ones k m : Nat}

/-- After an addition: `high` is the sum of the upper digits, `low` that of the lower ones with the carry, `k` and `m` are the decimal
carries. The nine rows with N clear are the three ways the lower digit can come out (a digit, more than that, a carry out of bit 3) by
the same three for the upper digit. -/
theorem daaTable_sum (hhigh : high ≤ 18) (hlow : low ≤ 19) (hones : ones ≤ 9) (htens : tens ≤ 9) (hk : low = 10 * k + ones)
    (hm : high + k = 10 * m + tens) (ha : a.toNat = (16 * high + low) % 256) (hh : f.h = decide (15 < low)) (hn : f.n = false)
    (hc : f.c = decide (255 < 16 * high + low)) : DaaTableGives f a tens ones (decide (m = 1)) := by
  have lower : k = 0 ∨ (k = 1 ∧ low ≤ 15) ∨ (k = 1 ∧ 16 ≤ low) := by omega
  have upper : m = 0 ∨ (m = 1 ∧ 16 * high + low ≤ 255) ∨ (m = 1 ∧ 255 < 16 * high + low) := by omega
  rcases upper with hu | ⟨hu, hraw⟩ | ⟨hu, hraw⟩ <;> rcases lower with hl | ⟨hl, hhalf⟩ | ⟨hl, hhalf⟩ <;> subst hu hl
  case' inl.inl => refine daaTableGives_of_row 0 ?_
  case' inl.inr.inl => refine daaTableGives_of_row 1 ?_
  case' inl.inr.inr => refine daaTableGives_of_row 2 ?_
  case' inr.inl.inl => refine daaTableGives_of_row 3 ?_
  case' inr.inl.inr.inl => refine daaTableGives_of_row 4 ?_
  case' inr.inl.inr.inr => refine daaTableGives_of_row 5 ?_
  case' inr.inr.inl => refine daaTableGives_of_row 6 ?_
  case' inr.inr.inr.inl => refine daaTableGives_of_row 7 ?_
  case' inr.inr.inr.inr => refine daaTableGives_of_row 8 ?_
  all_goals
    simp [daaTable, DaaRow.applies_iff, ha, hh, hn, hc]
    omega

/-- After a subtraction of `high'` and `low'` (the lower digit with the borrow) from `high` and `low`: `k` and `m` are the decimal borrows.
The four rows with N set are a lower digit without and with a borrow by the same for the upper digit. -/
theorem daaTable_difference {high' low' : Nat} (hhigh : high ≤ 9) (hlow : low ≤ 9) (hhigh' : high' ≤ 9) (hlow' : low' ≤ 10)
    (hones : ones ≤ 9) (htens : tens ≤ 9) (hk : low + 10 * k = low' + ones) (hm : high + 10 * m = high' + k + tens)
    (ha : a.toNat = (256 + (16 * high + low) - (16 * high' + low')) % 256) (hh : f.h = decide (low < low')) (hn : f.n = true)
    (hc : f.c = decide (16 * high + low < 16 * high' + low')) : DaaTableGives f a tens ones (decide (m = 1)) := by
  have lower : k = 0 ∨ k = 1 := by omega
  have upper : m = 0 ∨ m = 1 := by omega
  rcases upper with hu | hu <;> rcases lower with hl | hl <;> subst hu hl
  case' inl.inl => refine daaTableGives_of_row 9 ?_
  case' inl.inr => refine daaTableGives_of_row 10 ?_
  case' inr.inl => refine daaTableGives_of_row 11 ?_
  case' inr.inr => refine daaTableGives_of_row 12 ?_
  all_goals
    simp [daaTable, DaaRow.applies_iff, ha, hh, hn, hc]
    omega

end

/-- The byte whose nibbles are the two decimal digits of `n`. -/
def packedDecimal (n : Nat) : Byte := BitVec.ofNat 8 (n / 10 * 16 + n % 10)

theorem packedDecimal_toNat {n : Nat} (h : n < 100) : (packedDecimal n).toNat = n / 10 * 16 + n % 10 := by
  rw [packedDecimal, BitVec.toNat_ofNat]
  omega

theorem packedDecimal_digits {n : Nat} (h : n < 100) :
    ∃ tens ones, tens ≤ 9 ∧ ones ≤ 9 ∧ n = 10 * tens + ones ∧ (packedDecimal n).toNat = 16 * tens + ones :=
  ⟨n / 10, n % 10, by omega, by omega, by omega, by rw [packedDecimal_toNat h, Nat.mul_comm]⟩

theorem eq_packedDecimal {v : Byte} {tens ones n : Nat} (htens : tens ≤ 9) (hones : ones ≤ 9) (hn : n = 10 * tens + ones)
    (hv : v.toNat = 16 * tens + ones) : v = packedDecimal n := by
  apply BitVec.eq_of_toNat_eq
  rw [hv, packedDecimal_toNat (by omega)]
  omega

/-- A column of a decimal addition: a digit and a carry. -/
theorem exists_digit_carry (n : Nat) : ∃ carry digit, digit ≤ 9 ∧ n = 10 * carry + digit :=
  ⟨n / 10, n % 10, by omega, by omega⟩

/-- A column of a decimal subtraction: a digit and a borrow. -/
theorem exists_digit_borrow {n n' : Nat} (h : n' ≤ n + 10) (hn : n ≤ n' + 9) :
    ∃ borrow digit, borrow ≤ 1 ∧ digit ≤ 9 ∧ n + 10 * borrow = n' + digit := by
  by_cases hb : n < n'
  · exact ⟨1, n + 10 - n', by omega, by omega, by omega⟩
  · exact ⟨0, n - n', by omega, by omega, by omega⟩

section
variable {s u : State} {x y : Nat} {cin : Bool}

/-- An addition of packed decimal bytes and then DAA: the table gives the digits of the column addition. -/
theorem exec_daa_addA (hx : x < 100) (hy : y < 100) (ha : s.main.a = packedDecimal x)
    (hu : exec .daa (s.addA (packedDecimal y) cin) = .next u) :
    u.main.a = packedDecimal ((x + y + cin.toNat) % 100) ∧ u.main.f.c = decide (100 ≤ x + y + cin.toNat) := by
  obtain ⟨x1, x0, hx1, hx0, rfl, hxa⟩ := packedDecimal_digits hx
  obtain ⟨y1, y0, hy1, hy0, rfl, hya⟩ := packedDecimal_digits hy
  rw [← ha] at hxa
  generalize packedDecimal (10 * y1 + y0) = v at hya hu
  have hcin : cin.toNat ≤ 1 := cin.toNat_le
  have hhalf : 15 < s.main.a.toNat % 16 + v.toNat % 16 + cin.toNat ↔ 15 < x0 + y0 + cin.toNat := by omega
  have hraw : s.main.a.toNat + v.toNat + cin.toNat = 16 * (x1 + y1) + (x0 + y0 + cin.toNat) := by omega
  obtain ⟨k, ones, hones, hk⟩ := exists_digit_carry (x0 + y0 + cin.toNat)
  obtain ⟨m, tens, htens, hm⟩ := exists_digit_carry (x1 + y1 + k)
  have hres : (10 * x1 + x0 + (10 * y1 + y0) + cin.toNat) % 100 = 10 * tens + ones := by omega
  have hcarry : m = 1 ↔ 100 ≤ 10 * x1 + x0 + (10 * y1 + y0) + cin.toNat := by omega
  obtain ⟨-, -, hh, -, hn, hc⟩ := addFlags_are s.main.f s.main.a v cin
  have digits : DaaTableGives (s.addA v cin).main.f (add8 s.main.a v cin) tens ones (decide (m = 1)) :=
    daaTable_sum (by omega) (by omega) hones htens hk hm (hraw ▸ add8_toNat s.main.a v cin)
      (hh.trans (decide_eq_decide.mpr hhalf)) hn (hraw ▸ hc)
  obtain ⟨hua, huc⟩ := exec_daa_of_gives digits hu
  exact ⟨eq_packedDecimal htens hones hres hua, huc.trans (decide_eq_decide.mpr hcarry)⟩

/-- A subtraction of packed decimal bytes and then DAA: the table gives the digits of the column subtraction. -/
theorem exec_daa_subA (hx : x < 100) (hy : y < 100) (ha : s.main.a = packedDecimal x)
    (hu : exec .daa (s.subA (packedDecimal y) cin) = .next u) :
    u.main.a = packedDecimal ((x + 200 - y - cin.toNat) % 100) ∧ u.main.f.c = decide (x < y + cin.toNat) := by
  obtain ⟨x1, x0, hx1, hx0, rfl, hxa⟩ := packedDecimal_digits hx
  obtain ⟨y1, y0, hy1, hy0, rfl, hya⟩ := packedDecimal_digits hy
  rw [← ha] at hxa
  generalize packedDecimal (10 * y1 + y0) = v at hya hu
  have hcin : cin.toNat ≤ 1 := cin.toNat_le
  have hhalf : s.main.a.toNat % 16 < v.toNat % 16 + cin.toNat ↔ x0 < y0 + cin.toNat := by omega
  have hborrow : (s.main.a.toNat : Int) - v.toNat - cin.toNat < 0 ↔ 16 * x1 + x0 < 16 * y1 + (y0 + cin.toNat) := by omega
  have hraw : (sub8 s.main.a v cin).toNat = (256 + (16 * x1 + x0) - (16 * y1 + (y0 + cin.toNat))) % 256 := by
    have hdiff := sub8_toNat s.main.a v cin
    omega
  have hlow : y0 + cin.toNat ≤ 10 := by omega
  obtain ⟨k, ones, hk1, hones, hk⟩ := exists_digit_borrow (n := x0) (n' := y0 + cin.toNat) (by omega) (by omega)
  obtain ⟨m, tens, hm1, htens, hm⟩ := exists_digit_borrow (n := x1) (n' := y1 + k) (by omega) (by omega)
  have digits : DaaTableGives (s.subA v cin).main.f (sub8 s.main.a v cin) tens ones (decide (m = 1)) := by
    obtain ⟨-, -, hh, -, hn, hc⟩ := subFlags_are s.main.f s.main.a v cin
    exact daaTable_difference hx1 hx0 hy1 hlow hones htens hk hm hraw (hh.trans (decide_eq_decide.mpr hhalf)) hn
      (hc.trans (decide_eq_decide.mpr hborrow))
  clear hhalf hborrow hraw
  have hres : (10 * x1 + x0 + 200 - (10 * y1 + y0) - cin.toNat) % 100 = 10 * tens + ones := by omega
  have hcarry : m = 1 ↔ 10 * x1 + x0 < 10 * y1 + y0 + cin.toNat := by omega
  obtain ⟨hua, huc⟩ := exec_daa_of_gives digits hu
  exact ⟨eq_packedDecimal htens hones hres hua, huc.trans (decide_eq_decide.mpr hcarry)⟩

end

/-- Settles O29: ADC ends in `addA` and SBC in `subA`, with the carry flag coming in. -/
theorem decimalAdjustGivesDecimalResults : Obligations.DecimalAdjustGivesDecimalResults := by
  intro s t u x y hx hy packed cin ha
  refine ⟨fun ht hu => ?sum, fun ht hu => ?difference⟩
  case sum =>
    obtain rfl : s.addA (packed y) s.main.f.c = t := Host.Outcome.next.inj ht
    exact exec_daa_addA hx hy ha hu
  case difference =>
    obtain rfl : s.subA (packed y) s.main.f.c = t := Host.Outcome.next.inj ht
    exact exec_daa_subA hx hy ha hu

end Sys2Proof.Machine

/-! 16-bit arithmetic (42_arith16.md): ADD to HL and the index registers (O30), ADC HL and SBC HL (O31), INC, DEC and MLT (O32). What
`add16` and `sub16` and their flags compute is said once, by arithmetic on the numbers the words stand for; each obligation then says
what an instruction that ends in the shared register write (`setHl`, `setIdx`, `setRp`) does. -/

namespace Sys2Proof.Machine

open Sys2Proof

/-! ### `add16` and its flags (R270, R271) -/

section
variable (f : Flags) (a b : Word) (cin : Bool)

theorem add16_toNat : (add16 a b cin).toNat = (a.toNat + b.toNat + cin.toNat) % 65536 := BitVec.toNat_ofNat _ _

/-- Bit 15 of a word is set in the upper half of its range. -/
theorem word_msb (v : Word) : v.msb = decide (32768 ≤ v.toNat) := BitVec.msb_eq_decide v

theorem word_beq_zero (v : Word) : (v == 0) = decide (v.toNat = 0) :=
  Bool.eq_iff_iff.mpr (by simp [BitVec.toNat_eq])

/-- The signed number a word stands for, as a case split on its unsigned one. -/
theorem word_toInt (v : Word) : v.toInt = if v.toNat < 32768 then (v.toNat : Int) else v.toNat - 65536 := by
  rw [BitVec.toInt_eq_toNat_cond]
  split <;> split <;> omega

/-- P/V of `add16` is the signed sum out of range. -/
theorem add16_overflow :
    ((a.msb == b.msb) && ((add16 a b cin).msb != a.msb)) =
      decide (a.toInt + b.toInt + cin.toNat < -32768 ∨ 32767 < a.toInt + b.toInt + cin.toNat) := by
  have ha := a.isLt
  have hb := b.isLt
  have hc := cin.toNat_le
  rw [Bool.eq_iff_iff]
  simp only [word_msb, word_toInt, add16_toNat, Bool.and_eq_true, beq_iff_eq, bne_iff_ne, ne_eq, decide_eq_decide, not_iff,
    decide_eq_true_eq]
  split <;> split <;> omega

/-- ADD to a word register writes the carries out of bits 11 and 15 and clears N; it keeps S, Z and P/V (R271). -/
theorem addWordFlags_are :
    (addWordFlags f a b cin).are f.s f.z (decide (4095 < a.toNat % 4096 + b.toNat % 4096 + cin.toNat)) f.pv false
      (decide (65535 < a.toNat + b.toNat + cin.toNat)) :=
  ⟨rfl, rfl, rfl, rfl, rfl, rfl⟩

theorem adcWordFlags_are :
    (adcWordFlags f a b cin).are (decide (32768 ≤ (a.toNat + b.toNat + cin.toNat) % 65536))
      (decide ((a.toNat + b.toNat + cin.toNat) % 65536 = 0)) (decide (4095 < a.toNat % 4096 + b.toNat % 4096 + cin.toNat))
      (decide (a.toInt + b.toInt + cin.toNat < -32768 ∨ 32767 < a.toInt + b.toInt + cin.toNat)) false
      (decide (65535 < a.toNat + b.toNat + cin.toNat)) := by
  obtain ⟨-, -, hh, -, hn, hc⟩ := addWordFlags_are f a b cin
  exact ⟨add16_toNat a b cin ▸ word_msb _, add16_toNat a b cin ▸ word_beq_zero _, hh, add16_overflow a b cin, hn, hc⟩

/-! ### `sub16` and its flags (R275) -/

/-- A subtraction with a borrow is the addition of the complement with the borrow complemented. -/
theorem sub16_eq_add16_not : sub16 a b cin = add16 a (~~~b) (!cin) := by
  cases cin <;> simp only [sub16, add16, Bool.toNat_false, Bool.toNat_true, Bool.not_false, Bool.not_true] <;> bv_omega

theorem sub16_toNat : ((sub16 a b cin).toNat : Int) = ((a.toNat : Int) - b.toNat - cin.toNat) % 65536 := by
  have hc := cin.toNat_le
  simp only [sub16, BitVec.toNat_sub, BitVec.toNat_ofNat]
  omega

/-- The complement of a word stands for the number that makes -1 with the word's own. -/
theorem word_toInt_not (v : Word) : (~~~v).toInt = -1 - v.toInt := by
  have hv := v.isLt
  simp only [word_toInt, BitVec.toNat_not]
  split <;> split <;> omega

/-- P/V of `sub16` is the signed difference out of range. -/
theorem sub16_overflow :
    ((a.msb != b.msb) && ((sub16 a b cin).msb != a.msb)) =
      decide (a.toInt - b.toInt - cin.toNat < -32768 ∨ 32767 < a.toInt - b.toInt - cin.toNat) := by
  have hmsb : (a.msb != b.msb) = (a.msb == (~~~b).msb) := by
    rw [BitVec.msb_not]
    cases a.msb <;> cases b.msb <;> rfl
  have hsum : a.toInt + (~~~b).toInt + (!cin).toNat = a.toInt - b.toInt - cin.toNat := by
    rw [word_toInt_not]
    cases cin <;> simp <;> omega
  rw [hmsb, sub16_eq_add16_not, add16_overflow, hsum]

theorem sbcWordFlags_are :
    (sbcWordFlags f a b cin).are (decide (32768 ≤ ((a.toNat : Int) - b.toNat - cin.toNat) % 65536))
      (decide (((a.toNat : Int) - b.toNat - cin.toNat) % 65536 = 0)) (decide (a.toNat % 4096 < b.toNat % 4096 + cin.toNat))
      (decide (a.toInt - b.toInt - cin.toNat < -32768 ∨ 32767 < a.toInt - b.toInt - cin.toNat)) true
      (decide (a.toNat < b.toNat + cin.toNat)) := by
  refine ⟨(word_msb _).trans ?sign, (word_beq_zero _).trans ?zero, rfl, sub16_overflow a b cin, rfl, rfl⟩
  case sign | zero =>
    rw [← sub16_toNat, decide_eq_decide]
    omega

end

/-! ### Steps and products -/

theorem word_add_one_toNat (v : Word) : (v + 1).toNat = (v.toNat + 1) % 65536 := BitVec.toNat_add v 1

theorem word_sub_one_toNat (v : Word) : (v - 1).toNat = (v.toNat + 65535) % 65536 := by
  bv_omega

/-- A word's number in terms of its two halves (R31). -/
theorem toNat_eq_high_low (v : Word) : v.toNat = 256 * (high v).toNat + (low v).toNat := by
  rw [← toNat_append_bytes, high_append_low]

/-- The product of the two halves fits a word (R274). -/
theorem high_mul_low_toNat (v : Word) :
    ((high v).setWidth 16 * (low v).setWidth 16).toNat = v.toNat / 256 * (v.toNat % 256) := by
  have hv := toNat_eq_high_low v
  have hhigh : (high v).toNat < 256 := (high v).isLt
  have hlow : (low v).toNat < 256 := (low v).isLt
  have hfits : (high v).toNat * (low v).toNat < 65536 := Nat.mul_lt_mul'' hhigh hlow
  have hdiv : v.toNat / 256 = (high v).toNat := by omega
  have hmod : v.toNat % 256 = (low v).toNat := by omega
  rw [hdiv, hmod, BitVec.toNat_mul, BitVec.toNat_setWidth_of_le (by decide), BitVec.toNat_setWidth_of_le (by decide),
    Nat.mod_eq_of_lt hfits]

/-! ### The obligations -/

/-- Settles O30: each form ends in `add16` without a carry coming in and in the flags of R271. -/
theorem wordAdditionsKeepSignZeroOverflow : Obligations.WordAdditionsKeepSignZeroOverflow := by
  intro s f flags
  have are (t : State) (a b : Word) : flags (t.setFlags (addWordFlags f a b false)) a b :=
    State.setFlags_are (addWordFlags_are f a b false)
  refine ⟨fun ss => ⟨_, rfl, ?hl, are _ s.hl (s.rp ss), rfl⟩,
    fun xx => ⟨_, rfl, add16_toNat s.ix (s.rpXx xx) false, are _ s.ix (s.rpXx xx), rfl⟩,
    fun yy => ⟨_, rfl, add16_toNat s.iy (s.rpYy yy) false, are _ s.iy (s.rpYy yy), rfl⟩⟩
  case hl => exact (congrArg BitVec.toNat (State.setHl_hl s _)).trans (add16_toNat s.hl (s.rp ss) false)

/-- Settles O31: both instructions end in `setHl` and `setFlags`, with the carry flag coming in. -/
theorem wordCarryArithmeticSetsEveryFlag : Obligations.WordCarryArithmeticSetsEveryFlag := by
  intro s ss a b c sets
  have write {i : Instr} {w : Word} {g : Flags} {res signed : Int} {h n cy : Bool}
      (hi : exec i s = .next ((s.setHl w).setFlags g)) (hw : (w.toNat : Int) = res % 65536)
      (hg : g.are (decide (32768 ≤ res % 65536)) (decide (res % 65536 = 0)) h (decide (signed < -32768 ∨ 32767 < signed)) n cy) :
      sets i res signed h n cy :=
    ⟨_, hi, (congrArg (fun v : Word => (v.toNat : Int)) (State.setHl_hl s w)).trans hw, State.setFlags_are hg, rfl⟩
  refine ⟨write rfl ?sum ?sumFlags, write rfl (sub16_toNat a b s.main.f.c) (sbcWordFlags_are s.main.f a b s.main.f.c)⟩
  case sum => exact_mod_cast add16_toNat a b s.main.f.c
  case sumFlags => exact_mod_cast adcWordFlags_are s.main.f a b s.main.f.c

/-- Settles O32: the forms of a pair or SP end in `setRp`, those of an index register in `setIdx`. -/
theorem wordStepsAndMultiplyChangeNoFlag : Obligations.WordStepsAndMultiplyChangeNoFlag := by
  intro s sets setsIndex
  have write {i : Instr} {r : RegSs} {w : Word} {v : Nat} (hi : exec i s = .next (s.setRp r w)) (hw : w.toNat = v) : sets i r v :=
    ⟨_, hi, (congrArg BitVec.toNat (s.setRp_rp r w)).trans hw, fun q hq => s.setRp_other r q w hq, s.setRp_reg_a r w,
      s.setRp_flags r w, s.setRp_frame r w⟩
  have writeIndex {i : Instr} {y : Idx} {w : Word} {v : Nat} (hi : exec i s = .next (s.setIdx y w)) (hw : w.toNat = v) :
      setsIndex i y v :=
    ⟨_, hi, (congrArg BitVec.toNat (s.setIdx_idx y w)).trans hw, fun q hq => s.setIdx_other y q w hq, s.setIdx_frame y w⟩
  exact ⟨fun r => write rfl (word_add_one_toNat (s.rp r)), fun r => write rfl (word_sub_one_toNat (s.rp r)),
    fun y => writeIndex rfl (word_add_one_toNat (s.idx y)), fun y => writeIndex rfl (word_sub_one_toNat (s.idx y)),
    fun r => write rfl (high_mul_low_toNat (s.rp r))⟩

end Sys2Proof.Machine

/-! Rotates, shifts and bits (43_rotate_bit.md): the rotates of a register and of A (O33), those of a memory byte with RLD and RRD
(O34), and BIT, RES and SET (O35). What `rot` of R290 computes is said once for its seven kinds, by arithmetic on the number the byte
stands for; each obligation then says what an instruction that ends in the shared operation (`rotReg`, `rotAcc`, `rotMem`, …) does. -/

namespace Sys2Proof.Machine

open Sys2Proof

/-! ### Bits and digits joined side by side -/

/-- The left part of two joined bit strings counts in units of the right part's range. -/
theorem toNat_append_add {m n : Nat} (x : BitVec m) (y : BitVec n) : (x ++ y).toNat = x.toNat * 2 ^ n + y.toNat := by
  rw [BitVec.toNat_append, ← Nat.shiftLeft_add_eq_or_of_lt y.isLt, Nat.shiftLeft_eq]

/-- A byte shifted left by one with a bit put in at bit 0 (R290). -/
theorem shiftUp_toNat (v : Byte) (fill : BitVec 1) :
    (v.extractLsb' 0 7 ++ fill).toNat = v.toNat * 2 % 256 + fill.toNat := by
  rw [toNat_append_add, BitVec.extractLsb'_toNat, Nat.shiftRight_zero]
  omega

/-- A byte shifted right by one with a bit put in at bit 7 (R290). -/
theorem shiftDown_toNat (v : Byte) (fill : BitVec 1) :
    (fill ++ v.extractLsb' 1 7).toNat = v.toNat / 2 + 128 * fill.toNat := by
  have hv := v.isLt
  rw [toNat_append_add, BitVec.extractLsb'_toNat, Nat.shiftRight_eq_div_pow]
  omega

/-- Bit 7 of a byte as a number. -/
theorem topBit_toNat (v : Byte) : (v.extractLsb' 7 1).toNat = v.toNat / 128 := by
  have hv := v.isLt
  rw [BitVec.extractLsb'_toNat, Nat.shiftRight_eq_div_pow]
  omega

/-- Bit 0 of a byte as a number. -/
theorem bottomBit_toNat (v : Byte) : (v.extractLsb' 0 1).toNat = v.toNat % 2 := BitVec.extractLsb'_toNat 0 1 v

theorem byte_getLsbD_seven (v : Byte) : v.getLsbD 7 = decide (128 ≤ v.toNat) :=
  (BitVec.msb_eq_getLsbD_last v).symm.trans (byte_msb v)

theorem byte_getLsbD_zero (v : Byte) : v.getLsbD 0 = decide (v.toNat % 2 = 1) := Nat.testBit_zero v.toNat

/-- The upper digit of a byte as a number. -/
theorem upperDigit_toNat (v : Byte) : (v.extractLsb' 4 4).toNat = v.toNat / 16 := by
  have hv := v.isLt
  rw [BitVec.extractLsb'_toNat, Nat.shiftRight_eq_div_pow]
  omega

/-- The lower digit of a byte as a number. -/
theorem lowerDigit_toNat (v : Byte) : (v.extractLsb' 0 4).toNat = v.toNat % 16 := BitVec.extractLsb'_toNat 0 4 v

/-- A byte is the one whose number is its own. -/
theorem byte_eq_ofNat {v : Byte} {n : Nat} (h : v.toNat = n) : v = BitVec.ofNat 8 n := by
  rw [← h, BitVec.ofNat_toNat, BitVec.setWidth_eq]

/-! ### `rot` and its flags (R290) -/

/-- The result of `rot(v, kind)` as a number: twice or half the operand, and the bit put in at the free end. -/
def RotKind.number (k : RotKind) (v c : Nat) : Nat :=
  match k with
  | .rlc => v * 2 % 256 + v / 128
  | .rrc => v / 2 + 128 * (v % 2)
  | .rl => v * 2 % 256 + c
  | .rr => v / 2 + 128 * c
  | .sla => v * 2 % 256 + 0
  | .sra => v / 2 + 128 * (v / 128)
  | .srl => v / 2 + 128 * 0

/-- The bit `rot(v, kind)` moves out: bit 7 to the left, bit 0 to the right. -/
def RotKind.out (k : RotKind) (v : Nat) : Bool :=
  match k with
  | .rlc | .rl | .sla => decide (128 ≤ v)
  | .rrc | .rr | .sra | .srl => decide (v % 2 = 1)

theorem rotResult_toNat (k : RotKind) (v : Byte) (c : Bool) : (rotResult k v c).toNat = k.number v.toNat c.toNat := by
  cases k with
  | rlc => exact (shiftUp_toNat v _).trans (by rw [topBit_toNat, RotKind.number])
  | rrc => exact (shiftDown_toNat v _).trans (by rw [bottomBit_toNat, RotKind.number])
  | rl => exact (shiftUp_toNat v _).trans (by rw [BitVec.toNat_ofBool, RotKind.number])
  | rr => exact (shiftDown_toNat v _).trans (by rw [BitVec.toNat_ofBool, RotKind.number])
  | sla => exact shiftUp_toNat v 0#1
  | sra => exact (shiftDown_toNat v _).trans (by rw [topBit_toNat, RotKind.number])
  | srl => exact shiftDown_toNat v 0#1

theorem rotCarry_eq (k : RotKind) (v : Byte) : rotCarry k v = k.out v.toNat := by
  cases k with
  | rlc | rl | sla => exact byte_getLsbD_seven v
  | rrc | rr | sra | srl => exact byte_getLsbD_zero v

section
variable (f : Flags) {r : Byte} {res : Nat}

/-- The flags of RLD and RRD, from the number of the new A (R297). -/
theorem inFlags_are (hr : r.toNat = res) :
    (inFlags f r).are (decide (128 ≤ res)) (decide (res = 0)) false (evenOnes (BitVec.ofNat 8 res)) false f.c := by
  rw [← byte_eq_ofNat hr, ← hr]
  exact ⟨byte_msb r, byte_beq_zero r, rfl, parity_eq_evenOnes r, rfl, rfl⟩

/-- `rotflags(r, co)`, from the number of the result (R290). -/
theorem rotFlags_are (hr : r.toNat = res) (co : Bool) :
    (rotFlags f r co).are (decide (128 ≤ res)) (decide (res = 0)) false (evenOnes (BitVec.ofNat 8 res)) false co := by
  obtain ⟨hs, hz, hh, hpv, hn, -⟩ := inFlags_are f hr
  exact ⟨hs, hz, hh, hpv, hn, rfl⟩

end

/-! ### The obligations of the rotates -/

/-- Settles O33: the forms of a register end in `rotReg`, those of A in `rotAcc`. -/
theorem registerRotates : Obligations.RegisterRotates := by
  intro s c up down rotates rotatesA
  have rotate {i : Instr} {k : RotKind} {r : Reg8} (hi : exec i s = .next (s.rotReg k r)) :
      rotates i r (k.number (s.r8 r).toNat c) (k.out (s.r8 r).toNat) := by
    have hres := rotResult_toNat k (s.r8 r) s.main.f.c
    refine ⟨_, hi, ?result, fun q hq => ?other, ?flags, rfl⟩
    case result => rw [State.rotReg, State.setFlags_r8, State.setR8_same, hres]
    case other => rw [State.rotReg, State.setFlags_r8, State.setR8_other s r q _ hq]
    case flags =>
      rw [← rotCarry_eq]
      exact State.setFlags_are (rotFlags_are s.main.f hres _)
  have rotateA {i : Instr} {k : RotKind} (hi : exec i s = .next (s.rotAcc k)) :
      rotatesA i (k.number s.main.a.toNat c) (k.out s.main.a.toNat) :=
    ⟨_, hi, rotResult_toNat k s.main.a s.main.f.c, ⟨rfl, rfl, rfl, rfl, rfl, rotCarry_eq k s.main.a⟩, rfl⟩
  exact ⟨fun r => ⟨rotate (k := .rlc) rfl, rotate (k := .rrc) rfl, rotate (k := .rl) rfl, rotate (k := .rr) rfl,
      rotate (k := .sla) rfl, rotate (k := .sra) rfl, rotate (k := .srl) rfl⟩,
    rotateA (k := .rlc) rfl, rotateA (k := .rrc) rfl, rotateA (k := .rl) rfl, rotateA (k := .rr) rfl⟩

section
variable (s : State) (la : Word) (v : Byte) (f : Flags)

/-- A byte write and then flags stores the byte. -/
theorem State.writeByte_setFlags_writes : s.writes ((s.writeByte false la v).setFlags f) false [(la, v)] :=
  (s.writeByte_writes false la v).setFlags f

/-- A byte write and then flags changes F alone besides what it stores. -/
theorem State.writeByte_setFlags_onlyStores :
    { s with
      main := { s.main with f := ((s.writeByte false la v).setFlags f).main.f }
      fresh := ((s.writeByte false la v).setFlags f).fresh }.onlyStores ((s.writeByte false la v).setFlags f) :=
  ((s.writeByte_onlyStores false la v).setFlags f).takeFlags

end

/-- Settles O34: the forms of a memory byte end in `rotMem`; RLD and RRD write A, the byte at HL and the flags of the new A. -/
theorem memoryRotates : Obligations.MemoryRotates := by
  intro s c up down rotates all
  have rotate {i : Instr} {k : RotKind} {la : Word} (hi : exec i s = .next (s.rotMem k la)) :
      rotates i la (k.number (s.readByte la).toNat c) (k.out (s.readByte la).toNat) := by
    have hres := rotResult_toNat k (s.readByte la) s.main.f.c
    refine ⟨_, hi, ?stored, ?flags, s.writeByte_setFlags_onlyStores la _ _⟩
    case stored =>
      rw [← byte_eq_ofNat hres]
      exact s.writeByte_setFlags_writes la _ _
    case flags =>
      rw [← rotCarry_eq]
      exact State.setFlags_are (rotFlags_are s.main.f hres _)
  refine ⟨?atHl, fun y d => ?atIndexed, ?digitRotates⟩
  case atHl | atIndexed =>
    exact ⟨rotate (k := .rlc) rfl, rotate (k := .rrc) rfl, rotate (k := .rl) rfl, rotate (k := .rr) rfl,
      rotate (k := .sla) rfl, rotate (k := .sra) rfl, rotate (k := .srl) rfl⟩
  case digitRotates =>
    intro a m digits
    have rotateDigits {i : Instr} {w x y z : BitVec 4} {a' m' : Nat}
        (hi : exec i s = .next (((s.setA (w ++ x)).writeByte false s.hl (y ++ z)).setFlags (inFlags s.main.f (w ++ x))))
        (ha : w.toNat * 16 + x.toNat = a') (hm : y.toNat * 16 + z.toNat = m') : digits i a' m' := by
      have hA : (w ++ x).toNat = a' := (toNat_append_add w x).trans ha
      have hM : (y ++ z).toNat = m' := (toNat_append_add y z).trans hm
      have stored := (s.setA (w ++ x)).writeByte_setFlags_writes s.hl (y ++ z) (inFlags s.main.f (w ++ x))
      have only := (s.setA (w ++ x)).writeByte_setFlags_onlyStores s.hl (y ++ z) (inFlags s.main.f (w ++ x))
      refine ⟨_, hi, ?newA, ?stored, State.setFlags_are (inFlags_are s.main.f hA), ?frame⟩
      case newA => simpa using hA
      case stored =>
        rw [← byte_eq_ofNat hM]
        exact State.writes_from stored rfl rfl rfl rfl rfl rfl rfl rfl
      case frame => simpa using only
    refine ⟨rotateDigits rfl ?_ ?_, rotateDigits rfl ?_ ?_⟩
    all_goals simp only [upperDigit_toNat, lowerDigit_toNat, a, m]

/-! ### BIT, RES and SET -/

section
variable (v : Byte) (b : BitVec 3) {k : Nat}

/-- The mask of R292 and R303 has one bit. -/
theorem bitMask_getLsbD : (BitVec.twoPow 8 b.toNat).getLsbD k = decide (k = b.toNat) := by
  have hb := b.isLt
  rw [BitVec.getLsbD_twoPow, decide_eq_true hb, Bool.true_and]
  exact decide_eq_decide.mpr eq_comm

theorem resetBit_getLsbD (hk : k < 8) : (resetBit v b).getLsbD k = if k = b.toNat then false else v.getLsbD k := by
  rw [resetBit, BitVec.getLsbD_and, BitVec.getLsbD_not, bitMask_getLsbD b, decide_eq_true hk]
  by_cases h : k = b.toNat <;> simp [h]

theorem setBit_getLsbD : (setBit v b).getLsbD k = if k = b.toNat then true else v.getLsbD k := by
  rw [setBit, BitVec.getLsbD_or, bitMask_getLsbD b]
  by_cases h : k = b.toNat <;> simp [h]

end

/-- Settles O35: BIT ends in `setFlags`, RES and SET in `setR8` or `writeByte` with the operand changed in one bit. -/
theorem bitOperationsChangeOneBit : Obligations.BitOperationsChangeOneBit := by
  intro s b f changed tests writes writesMemory
  have test {i : Instr} {v : Byte} (hi : exec i s = .next (s.setFlags (bitFlags f v b))) : tests i v :=
    ⟨_, hi, ⟨rfl, rfl, rfl, rfl, rfl, rfl⟩, rfl⟩
  have write {i : Instr} {r : Reg8} {w : Byte} {bit : Bool} (hi : exec i s = .next (s.setR8 r w))
      (hw : changed (s.r8 r) w bit) : writes i r bit := by
    refine ⟨_, hi, ?_, fun q hq => s.setR8_other r q w hq, s.setR8_flags r w, rfl⟩
    rw [State.setR8_same]
    exact hw
  have writeMemory {i : Instr} {la : Word} {w : Byte} {bit : Bool} (hi : exec i s = .next (s.writeByte false la w))
      (hw : changed (s.readByte la) w bit) : writesMemory i la bit :=
    ⟨_, w, hi, hw, s.writeByte_writes false la w, s.writeByte_onlyStores false la w⟩
  have cleared (v : Byte) : changed v (resetBit v b) false := fun _ hk => resetBit_getLsbD v b hk
  have raised (v : Byte) : changed v (setBit v b) true := fun _ _ => setBit_getLsbD v b
  exact ⟨fun _ => test rfl, test rfl, fun _ _ => test rfl,
    fun _ => write rfl (cleared _), fun _ => write rfl (raised _),
    writeMemory rfl (cleared _), fun _ _ => writeMemory rfl (cleared _),
    writeMemory rfl (raised _), fun _ _ => writeMemory rfl (raised _)⟩

end Sys2Proof.Machine

/-! Jumps, calls and returns (44_control.md): the conditions and the jumps (O36), CALL and RST (O37), and the returns with RETI's effect on
the interrupt controller (O38). Every instruction here ends in one of three shared operations, `setPc`, `enter` or `leave`; a conditional
one ends in it or in nothing, by `condHolds`. -/

namespace Sys2Proof.Machine

open Sys2Proof

/-! ### Conditions (R330) -/

/-- The code of a condition: its upper bits name one of Z, C, P/V and S, its lowest bit is the value the flag must have. -/
theorem condHolds_eq_code (f : Flags) (cc : Cond) :
    condHolds f cc = ([f.z, f.c, f.pv, f.s].getD (cc.code.toNat / 2) false == (cc.code.toNat % 2 == 1)) := by
  cases cc with
  | nz | nc | po | p => exact (beq_false _).symm
  | z | c | pe | m => exact (beq_true _).symm

/-- The conditions of JR are the first four, with the same codes (R337). -/
theorem condJrHolds_eq_code (f : Flags) (cc : CondJr) :
    condJrHolds f cc = ([f.z, f.c, f.pv, f.s].getD (cc.code.toNat / 2) false == (cc.code.toNat % 2 == 1)) := by
  cases cc with
  | nz | nc => exact (beq_false _).symm
  | z | c => exact (beq_true _).symm

/-! ### DJNZ (R333) -/

section
variable {s : State} (e2 : Byte)

/-- DJNZ goes on where B becomes 0. -/
theorem exec_djnz_done (h : s.main.b = 1) : exec (.djnz e2) s = .next (s.setR8 .b (s.main.b - 1)) :=
  if_pos (by rw [h]; rfl)

/-- DJNZ jumps where B does not become 0. -/
theorem exec_djnz_again (h : s.main.b ≠ 1) : exec (.djnz e2) s = .next ((s.setR8 .b (s.main.b - 1)).jumpRelative e2) :=
  if_neg fun hb => h (sub_eq_zero.mp hb)

end

/-! ### The target of RST (R342) -/

theorem rstTarget_toNat (v : BitVec 3) : (0#10 ++ v ++ 0#3).toNat = 8 * v.toNat := by
  rw [toNat_append_add, toNat_append_add]
  simp [Nat.mul_comm]

/-! ### The order of priority (R542) -/

section
variable {o : PriorityOrder} {i j : Nat}

theorem mem_byPriority : i ∈ byPriority o ↔ i < 16 := by
  cases o with
  | lowIndexHigh => exact List.mem_range
  | highIndexHigh => exact List.mem_reverse.trans List.mem_range

/-- The list of the inputs goes down in priority. -/
theorem byPriority_pairwise (o : PriorityOrder) : (byPriority o).Pairwise (fun j i => higher o j i = true) := by
  cases o <;> decide

theorem higher_asymm (h : higher o j i = true) : higher o i j = false := by
  cases o with
  | lowIndexHigh | highIndexHigh => exact decide_eq_false (of_decide_eq_true h).asymm

/-- The first input that has a property is higher than every other one that has it. -/
theorem byPriority_find_eq_some {p : Nat → Bool} (h : (byPriority o).find? p = some j) :
    j < 16 ∧ p j = true ∧ ∀ i, i < 16 → p i = true → i ≠ j → higher o j i = true := by
  obtain ⟨hp, before, after, hsplit, hbefore⟩ := List.find?_eq_some_iff_append.mp h
  refine ⟨mem_byPriority.mp (List.mem_of_find?_eq_some h), hp, fun i hi hpi hne => ?_⟩
  have hafter : i ∈ after := by
    have hmem : i ∈ before ++ j :: after := hsplit ▸ mem_byPriority.mpr hi
    rcases List.mem_append.mp hmem with hb | hc
    · simpa [hpi] using hbefore i hb
    · exact (List.mem_cons.mp hc).resolve_left hne
  have hsorted : (before ++ j :: after).Pairwise (fun j i => higher o j i = true) := hsplit ▸ byPriority_pairwise o
  obtain ⟨-, hfrom, -⟩ := List.pairwise_append.mp hsorted
  exact List.rel_of_pairwise_cons hfrom hafter

/-- No input has a property that the search does not find. -/
theorem byPriority_find_eq_none {p : Nat → Bool} (h : (byPriority o).find? p = none) (hi : i < 16) : p i = false :=
  Bool.eq_false_of_not_eq_true (List.find?_eq_none.mp h i (mem_byPriority.mpr hi))

end

/-! ### The RETI signal (R340, R544) -/

/-- The signal is shown, and of the machine only the Interrupt-Under-Service bits may change. -/
theorem State.retiSignal_frame (s : State) :
    s.retiSignal = { s with irq := { s.irq with ius := s.retiSignal.irq.ius }, trace := .retiTran :: s.trace } := by
  unfold State.retiSignal
  dsimp only
  split <;> rfl

section
variable {s : State}

theorem State.retiSignal_ius_cpu (hc : s.params.variant = .cpu) : s.retiSignal.irq.ius = s.irq.ius := by
  simp [State.retiSignal, hc]

theorem State.retiSignal_ius_of_none (h : (byPriority s.params.intPriorityOrder).find? (fun j => s.irq.ius.getLsbD j) = none) :
    s.retiSignal.irq.ius = s.irq.ius := by
  simp [State.retiSignal, h]

theorem State.retiSignal_ius_of_some {j : Nat} (hm : s.params.variant = .mpu)
    (h : (byPriority s.params.intPriorityOrder).find? (fun j => s.irq.ius.getLsbD j) = some j) :
    s.retiSignal.irq.ius = s.irq.ius &&& ~~~bit16 j := by
  simp [State.retiSignal, hm, h]

theorem getLsbD_and_not_bit16 (x : BitVec 16) {j k : Nat} (hk : k < 16) :
    (x &&& ~~~bit16 j).getLsbD k = (x.getLsbD k && decide (k ≠ j)) := by
  rw [BitVec.getLsbD_and, BitVec.getLsbD_not, bit16, BitVec.getLsbD_twoPow]
  simp only [hk, decide_true, Bool.true_and]
  by_cases h : k = j
  · simp [← h, hk]
  · simp [h, Ne.symm h]

/-- In the MPU the bits that stay are those that another set bit is higher than. -/
theorem State.retiSignal_ius_mpu (hm : s.params.variant = .mpu) {k : Nat} (hk : k < 16) :
    s.retiSignal.irq.ius.getLsbD k = (s.irq.ius.getLsbD k &&
      (List.range 16).any (fun j => s.irq.ius.getLsbD j && higher s.params.intPriorityOrder j k)) := by
  cases hfind : (byPriority s.params.intPriorityOrder).find? (fun j => s.irq.ius.getLsbD j) with
  | none =>
    have hclear : s.irq.ius.getLsbD k = false := byPriority_find_eq_none hfind hk
    rw [State.retiSignal_ius_of_none hfind, hclear, Bool.false_and]
  | some j =>
    obtain ⟨hj, hset, hfirst⟩ := byPriority_find_eq_some hfind
    rw [State.retiSignal_ius_of_some hm hfind, getLsbD_and_not_bit16 _ hk, Bool.eq_iff_iff]
    simp only [Bool.and_eq_true, decide_eq_true_iff, List.any_eq_true, List.mem_range]
    refine and_congr_right fun hbit => ⟨fun hne => ⟨j, hj, hset, hfirst k hk hbit hne⟩, ?_⟩
    rintro ⟨i, hi, hiset, hik⟩ rfl
    have hnot : higher s.params.intPriorityOrder i k = false := by
      by_cases hne : i = k
      · exact higher_asymm (hne ▸ hik)
      · exact higher_asymm (hfirst i hi hiset hne)
    exact Bool.false_ne_true (hnot.symm.trans hik)

end

/-! ### The obligations -/

/-- Settles O36: a jump ends in `setPc`, a conditional one where its condition holds; DJNZ by its two cases. -/
theorem jumpsChangeOnlyTheProgramCounter : Obligations.JumpsChangeOnlyTheProgramCounter := by
  intro s f taken goes here rel
  have holds (cc : Cond) : condHolds f cc = taken cc.code.toNat := condHolds_eq_code f cc
  have holdsJr (cc : CondJr) : condJrHolds f cc = taken cc.code.toNat := condJrHolds_eq_code f cc
  have relative (e2 : Byte) : ((s.pc + e2.signExtend 16).toNat : Int) = rel e2 := toNat_add_signExtend s.pc e2
  have jump {i : Instr} {w : Word} {n : Int} (hi : exec i s = .next (s.setPc w)) (hw : (w.toNat : Int) = n) : goes i n :=
    ⟨_, hi, hw, rfl⟩
  have jumpIf {i : Instr} {c : Bool} {w : Word} {n : Int}
      (hi : exec i s = if c then .next (s.setPc w) else .next s) (hw : (w.toNat : Int) = n) :
      goes i (if c then n else here) := by
    cases c with
    | true => exact jump hi hw
    | false => exact jump hi rfl
  refine ⟨fun mn => jump rfl rfl, jump rfl rfl, fun y => jump rfl rfl, fun cc mn => ?jpCc, fun e2 => jump rfl (relative e2),
    fun cc e2 => ?jrCc, fun cc mn => ?callCc, fun cc => ?retCc, fun e2 => ?djnz⟩
  case jpCc =>
    rw [← holds]
    exact jumpIf rfl rfl
  case jrCc =>
    rw [← holdsJr]
    exact jumpIf rfl (relative e2)
  case callCc | retCc =>
    rw [← holds]
    rfl
  case djnz =>
    by_cases hb : s.main.b = 1
    · exact ⟨_, exec_djnz_done e2 hb, rfl, (if_pos hb).symm, rfl⟩
    · exact ⟨_, exec_djnz_again e2 hb, rfl, (relative e2).trans (if_neg hb).symm, rfl⟩

/-- Settles O37: CALL and RST end in `enter`, which pushes and sets PC. -/
theorem callsPushTheNextAddress : Obligations.CallsPushTheNextAddress := by
  intro s f taken calls
  have call {i : Instr} {w : Word} {n : Nat} (hi : exec i s = .next (s.enter s.pc w)) (hw : w.toNat = n) : calls i n :=
    ⟨_, hi, s.enter_writes s.pc w, hw, s.enter_onlyStores s.pc w⟩
  refine ⟨fun mn => call rfl rfl, fun v => call rfl (rstTarget_toNat v), fun cc mn => ?_⟩
  have holds : condHolds f cc = taken cc.code.toNat := condHolds_eq_code f cc
  rw [← holds]
  split
  case isTrue h => exact call (if_pos h) rfl
  case isFalse h => exact if_neg h

/-- Settles O38: every return ends in `leave`, RETN and RETI with what else they do. -/
theorem returnsPopTheProgramCounter : Obligations.ReturnsPopTheProgramCounter := by
  intro s f taken back surpassed
  have ret : exec .ret s = .next back := congrArg Host.Outcome.next s.leave_eq
  refine ⟨ret, fun cc => ?retCc, rfl, s.leave.retiSignal, rfl, s.leave.retiSignal_frame, fun hc => ?cpu, fun hm k hk => ?mpu⟩
  case retCc =>
    have holds : condHolds f cc = taken cc.code.toNat := condHolds_eq_code f cc
    rw [← holds]
    exact (apply_ite Host.Outcome.next _ _ _).symm
  case cpu => exact State.retiSignal_ius_cpu (s := s.leave) hc
  case mpu => exact State.retiSignal_ius_mpu (s := s.leave) hm hk

end Sys2Proof.Machine

/-! Block transfer and block compare (45_block.md): LDI, LDD, LDIR and LDDR (O39), CPI, CPD, CPIR and CPDR (O40). Every instruction here is
one iteration, `moveByte` or `searchByte`, and then `repeatIf`, whose condition is false in the forms that do not repeat. -/

namespace Sys2Proof.Machine

open Sys2Proof

/-! ### The repeat (R360) -/

/-- The repeat writes PC alone. -/
theorem State.repeatIf_eq (s : State) (again : Bool) : s.repeatIf again = s.setPc (if again then s.pc - 2 else s.pc) := by
  cases again with
  | true => rfl
  | false => rfl

/-- The new BC is 0 exactly when the old one was 1. -/
theorem word_pred_bne_zero (w : Word) : (w - 1 != 0) = decide (w ≠ 1) := by
  rw [Bool.eq_iff_iff, bne_iff_ne, decide_eq_true_eq]
  exact sub_ne_zero

/-! ### Flags -/

section
variable (f : Flags) (bc : Word)

/-- The flags of LDI and its kin (R367). -/
theorem moveFlags_are : (moveFlags f (bc - 1)).are f.s f.z false (decide (bc ≠ 1)) false f.c :=
  ⟨rfl, rfl, rfl, word_pred_bne_zero bc, rfl, rfl⟩

theorem sub8_noBorrow (a b : Byte) : sub8 a b false = a - b := BitVec.sub_zero (a - b)

/-- The flags of CPI and its kin (R363): those of the compare, but for P/V and C. -/
theorem searchFlags_are (a m : Byte) :
    (searchFlags f a m (bc - 1)).are ((a - m).getLsbD 7) (decide (a = m)) (decide (a.toNat % 16 < m.toNat % 16))
      (decide (bc ≠ 1)) true f.c := by
  obtain ⟨-, hz, hh, -, hn, -⟩ := subFlags_noBorrow_are f a m
  have hs : (sub8 a m false).msb = (a - m).getLsbD 7 := by
    rw [sub8_noBorrow]
    exact BitVec.msb_eq_getLsbD_last (a - m)
  exact ⟨hs, hz, hh, word_pred_bne_zero bc, hn, rfl⟩

end

/-! ### Memory writes together with register writes -/

section
variable {s t : State} {stack : Bool} {ws : List (Word × Byte)}

theorem State.onlyStores.pc_eq (h : s.onlyStores t) : t.pc = s.pc := by
  rw [h]

theorem State.onlyStores.setBc (h : s.onlyStores t) (v : Word) : (s.setBc v).onlyStores (t.setBc v) :=
  congrArg (State.setBc · v) h

theorem State.onlyStores.setDe (h : s.onlyStores t) (v : Word) : (s.setDe v).onlyStores (t.setDe v) :=
  congrArg (State.setDe · v) h

theorem State.onlyStores.setPc (h : s.onlyStores t) (v : Word) : (s.setPc v).onlyStores (t.setPc v) :=
  congrArg (State.setPc · v) h

theorem State.writes.setBc (h : s.writes t stack ws) (v : Word) : s.writes (t.setBc v) stack ws :=
  State.writes_congr h rfl rfl rfl rfl rfl

theorem State.writes.setDe (h : s.writes t stack ws) (v : Word) : s.writes (t.setDe v) stack ws :=
  State.writes_congr h rfl rfl rfl rfl rfl

theorem State.writes.setPc (h : s.writes t stack ws) (v : Word) : s.writes (t.setPc v) stack ws :=
  State.writes_congr h rfl rfl rfl rfl rfl

/-- Stores after writes of registers and PC: what was written may as well be read off the end state. -/
theorem State.onlyStores.takeRegisters {u : State} (h : u.onlyStores t)
    (hu : u = { s with main := u.main, pc := u.pc, fresh := u.fresh }) :
    { s with main := t.main, pc := t.pc, fresh := t.fresh }.onlyStores t := by
  rw [h.main_eq, h.pc_eq, h.fresh_eq, ← hu]
  exact h

end

/-! ### One iteration of a transfer (R365, R367) -/

section
variable (s : State) (delta : Word)

@[simp] theorem State.moveByte_hl : (s.moveByte delta).hl = s.hl + delta := high_append_low (s.hl + delta)

@[simp] theorem State.moveByte_de : (s.moveByte delta).de = s.de + delta := high_append_low (s.de + delta)

@[simp] theorem State.moveByte_bc : (s.moveByte delta).bc = s.bc - 1 := high_append_low (s.bc - 1)

@[simp] theorem State.moveByte_reg_a : (s.moveByte delta).main.a = s.main.a := by
  simp [State.moveByte]

@[simp] theorem State.moveByte_pc : (s.moveByte delta).pc = s.pc := s.writeByte_pc false s.de (s.readByte s.hl)

theorem State.moveByte_flags_are :
    (s.moveByte delta).main.f.are s.main.f.s s.main.f.z false (decide (s.bc ≠ 1)) false s.main.f.c :=
  State.setFlags_are (moveFlags_are s.main.f s.bc)

/-- The iteration stores the byte at HL to DE, and the register writes after it keep what was stored. -/
theorem State.moveByte_writes : s.writes (s.moveByte delta) false [(s.de, s.readByte s.hl)] :=
  ((((s.writeByte_writes false s.de (s.readByte s.hl)).setHl _).setDe _).setBc _).setFlags _

/-- Beside its store the iteration is its register writes. -/
theorem State.moveByte_onlyStores :
    ((((s.setHl (s.hl + delta)).setDe (s.de + delta)).setBc (s.bc - 1)).setFlags
      (moveFlags s.main.f (s.bc - 1))).onlyStores (s.moveByte delta) :=
  ((((s.writeByte_onlyStores false s.de (s.readByte s.hl)).setHl _).setDe _).setBc _).setFlags _

/-- The transfer repeats while the new BC is not 0 (R366, R368). -/
theorem State.moveByte_again (again : Bool) : (again && (s.moveByte delta).bc != 0) = decide (again ∧ s.bc ≠ 1) := by
  rw [State.moveByte_bc, word_pred_bne_zero, Bool.decide_and, Bool.decide_eq_true]

/-- A transfer and its repeat, as one write of PC. -/
theorem State.moveByte_repeatIf (again : Bool) :
    (s.moveByte delta).repeatIf (again && (s.moveByte delta).bc != 0) =
      (s.moveByte delta).setPc (if again ∧ s.bc ≠ 1 then s.pc - 2 else s.pc) := by
  rw [State.repeatIf_eq, State.moveByte_again, State.moveByte_pc]
  simp only [decide_eq_true_eq]

end

/-! ### One iteration of a search (R361, R363) -/

section
variable (s : State) (delta : Word)

@[simp] theorem State.searchByte_hl : (s.searchByte delta).hl = s.hl + delta := high_append_low (s.hl + delta)

@[simp] theorem State.searchByte_bc : (s.searchByte delta).bc = s.bc - 1 := high_append_low (s.bc - 1)

@[simp] theorem State.searchByte_pc : (s.searchByte delta).pc = s.pc := rfl

theorem State.searchByte_flags_are :
    (s.searchByte delta).main.f.are ((s.main.a - s.readByte s.hl).getLsbD 7) (decide (s.main.a = s.readByte s.hl))
      (decide (s.main.a.toNat % 16 < (s.readByte s.hl).toNat % 16)) (decide (s.bc ≠ 1)) true s.main.f.c :=
  State.setFlags_are (searchFlags_are s.main.f s.bc s.main.a (s.readByte s.hl))

/-- The search repeats while the new BC is not 0 and the bytes differ (R362, R364). -/
theorem State.searchByte_again (again : Bool) :
    (again && ((s.searchByte delta).bc != 0 && !(s.searchByte delta).main.f.z)) =
      decide (again ∧ s.bc ≠ 1 ∧ s.main.a ≠ s.readByte s.hl) := by
  obtain ⟨-, hz, -⟩ := s.searchByte_flags_are delta
  rw [State.searchByte_bc, word_pred_bne_zero, hz, ← decide_not, Bool.decide_and, Bool.decide_and, Bool.decide_eq_true]

/-- A search and its repeat, as one write of PC. -/
theorem State.searchByte_repeatIf (again : Bool) :
    (s.searchByte delta).repeatIf (again && ((s.searchByte delta).bc != 0 && !(s.searchByte delta).main.f.z)) =
      (s.searchByte delta).setPc (if again ∧ s.bc ≠ 1 ∧ s.main.a ≠ s.readByte s.hl then s.pc - 2 else s.pc) := by
  rw [State.repeatIf_eq, State.searchByte_again, State.searchByte_pc]
  simp only [decide_eq_true_eq]

end

/-! ### The obligations -/

/-- Settles O39: all four are `moveByte` and then `repeatIf`. -/
theorem blockMoves : Obligations.BlockMoves := by
  intro s moves
  have move {i : Instr} {delta : Word} {again : Bool}
      (hi : exec i s = .next ((s.moveByte delta).repeatIf (again && (s.moveByte delta).bc != 0))) : moves i delta again := by
    rw [State.moveByte_repeatIf] at hi
    exact ⟨_, hi, (s.moveByte_writes delta).setPc _, s.moveByte_hl delta, s.moveByte_de delta, s.moveByte_bc delta,
      s.moveByte_reg_a delta, s.moveByte_flags_are delta, rfl, ((s.moveByte_onlyStores delta).setPc _).takeRegisters rfl⟩
  exact ⟨move rfl, move rfl, move rfl, move rfl⟩

/-- Settles O40: all four are `searchByte` and then `repeatIf`. -/
theorem blockSearches : Obligations.BlockSearches := by
  intro s m searches
  have search {i : Instr} {delta : Word} {again : Bool}
      (hi : exec i s =
        .next ((s.searchByte delta).repeatIf (again && ((s.searchByte delta).bc != 0 && !(s.searchByte delta).main.f.z)))) :
      searches i delta again := by
    rw [State.searchByte_repeatIf] at hi
    exact ⟨_, hi, s.searchByte_hl delta, s.searchByte_bc delta, s.searchByte_flags_are delta, rfl, rfl⟩
  exact ⟨search rfl, search rfl, search rfl, search rfl⟩

end Sys2Proof.Machine

/-! Input and output (46_io.md): the single transfers (O41), INI, IND, INIR and INDR (O42), OUTI, OUTD, OTIR and OTDR (O43), OTIM, OTDM,
OTIMR and OTDMR (O44). Every block instruction here is one iteration, which counts B down, and in the repeating forms then `repeatB`. -/

namespace Sys2Proof.Machine

open Sys2Proof

/-! ### Reads of a port (R90) -/

/-- A port read returns the next answer of the environment, where there is one (log 11). -/
theorem State.portValue_eq_head {s : State} (w : Byte) (ws : List Byte) (h : s.ioIn = w :: ws) : s.portValue = w := by
  rw [State.portValue, h]

@[simp] theorem State.portRead_r8 (s : State) (port : Word) (q : Reg8) : (s.portRead port).r8 q = s.r8 q := by
  cases q <;> rfl

/-- A register that takes a byte after a port read is the only one that changes. -/
theorem State.portRead_setR8_other (s : State) (port : Word) (r q : Reg8) (v : Byte) (h : q ≠ r) :
    ((s.portRead port).setR8 r v).r8 q = s.r8 q := by
  rw [State.setR8_other _ r q v h, State.portRead_r8]

/-! ### Flags -/

/-- The new B is 0 exactly when the old one was 1. -/
theorem byte_pred_beq_zero (b : Byte) : (b - 1 == 0) = decide (b = 1) := by
  rw [Bool.eq_iff_iff, beq_iff_eq, decide_eq_true_eq]
  exact sub_eq_zero

section
variable (f : Flags) (b m v : Byte)

/-- The flags of IN r,(C) and IN0, by the byte itself (R380 item 3). -/
theorem inFlags_are_byte : (inFlags f v).are (v.getLsbD 7) (decide (v = 0)) false (evenOnes v) false f.c :=
  ⟨BitVec.msb_eq_getLsbD_last v, rfl, rfl, parity_eq_evenOnes v, rfl, rfl⟩

/-- The flags of INI, IND, OUTD and their repeating forms (R384, R397). -/
theorem blockIoFlags_are : (blockIoFlags f (b - 1)).are f.s (decide (b = 1)) f.h f.pv true f.c :=
  ⟨rfl, byte_pred_beq_zero b, rfl, rfl, rfl, rfl⟩

/-- The flags of OUTI and OTIR as printed (R398). -/
theorem outiFlags_are : (outiFlags f (b - 1)).are f.s f.z f.h (decide (b = 1)) false f.c :=
  ⟨rfl, rfl, rfl, byte_pred_beq_zero b, rfl, rfl⟩

/-- The flags of OTIM and its kin (R391). -/
theorem otimFlags_are :
    (otimFlags f b m).are ((b - 1).getLsbD 7) (decide (b = 1)) (decide (b.toNat % 16 = 0)) (evenOnes (b - 1)) (m.getLsbD 7)
      f.c :=
  ⟨BitVec.msb_eq_getLsbD_last (w := 8) _, byte_pred_beq_zero b, rfl, parity_eq_evenOnes (b - 1), rfl, rfl⟩

end

/-! ### The repeat on B (R360, R380 item 5) -/

/-- After an iteration that counts B down from `b` and leaves PC alone, the repeat, where there is one, is one write of PC. -/
theorem State.ite_repeatB_eq_setPc {t : State} {b : Byte} {pc : Word} (hb : t.main.b = b - 1) (hpc : t.pc = pc) (again : Bool) :
    (if again then t.repeatB else t) = t.setPc (if again ∧ b ≠ 1 then pc - 2 else pc) := by
  subst hpc
  cases again with
  | false => exact congrArg t.setPc (if_neg fun h => Bool.false_ne_true h.1).symm
  | true =>
    have hlast : t.main.b = 0 ↔ b = 1 := by
      rw [hb]
      exact sub_eq_zero
    by_cases h : b = 1
    · exact (if_pos (hlast.mpr h)).trans (congrArg t.setPc (if_neg fun k => k.2 h).symm)
    · exact (if_neg (mt hlast.mp h)).trans (congrArg t.setPc (if_pos ⟨rfl, h⟩).symm)

/-! ### One iteration of an input (R384, R386) -/

section
variable {s t : State} {stack : Bool} {ws : List (Word × Byte)}

theorem State.onlyStores.setR8 (h : s.onlyStores t) (r : Reg8) (v : Byte) : (s.setR8 r v).onlyStores (t.setR8 r v) :=
  congrArg (State.setR8 · r v) h

theorem State.writes.setR8 (h : s.writes t stack ws) (r : Reg8) (v : Byte) : s.writes (t.setR8 r v) stack ws :=
  State.writes_congr h rfl rfl rfl rfl rfl

/-- A port read changes nothing a memory write looks at. -/
theorem State.writes.beforePortRead {port : Word} (h : (s.portRead port).writes t stack ws) : s.writes t stack ws :=
  State.writes_from h rfl rfl rfl rfl rfl rfl rfl rfl

end

section
variable (s : State) (delta : Word)

theorem State.inputByte_hl : (s.inputByte delta).hl = s.hl + delta := high_append_low (s.hl + delta)

theorem State.inputByte_reg_b : (s.inputByte delta).main.b = s.main.b - 1 := rfl

theorem State.inputByte_pc : (s.inputByte delta).pc = s.pc := State.writeByte_pc (s.portRead s.portBc) false s.hl s.portValue

theorem State.inputByte_flags_are :
    (s.inputByte delta).main.f.are s.main.f.s (decide (s.main.b = 1)) s.main.f.h s.main.f.pv true s.main.f.c :=
  State.setFlags_are (blockIoFlags_are s.main.f s.main.b)

/-- The iteration stores the byte read at HL, and the register writes after it keep what was stored. -/
theorem State.inputByte_writes : s.writes (s.inputByte delta) false [(s.hl, s.portValue)] :=
  (((State.writeByte_writes (s.portRead s.portBc) false s.hl s.portValue).beforePortRead.setR8 .b _).setHl _).setFlags _

/-- Beside its store the iteration is its port read and its register writes. -/
theorem State.inputByte_onlyStores :
    ((((s.portRead s.portBc).setR8 .b (s.main.b - 1)).setHl (s.hl + delta)).setFlags
      (blockIoFlags s.main.f (s.main.b - 1))).onlyStores (s.inputByte delta) :=
  (((State.writeByte_onlyStores (s.portRead s.portBc) false s.hl s.portValue).setR8 .b _).setHl _).setFlags _

end

/-! ### One iteration of an output (R388, R391, R397, R398) -/

section
variable (s : State) (step : Byte)

theorem State.outputDown_reg_b : s.outputDown.main.b = s.main.b - 1 := rfl

theorem State.outputDown_pc : s.outputDown.pc = s.pc := rfl

theorem State.outputDown_hl : s.outputDown.hl = s.hl + -1 :=
  (high_append_low (s.hl - 1)).trans (sub_eq_add_neg s.hl 1)

theorem State.outputUp_reg_b : s.outputUp.main.b = s.main.b - 1 := rfl

theorem State.outputUp_pc : s.outputUp.pc = s.pc := rfl

theorem State.outputUp_hl : s.outputUp.hl = s.hl + 1 := high_append_low (s.hl + 1)

theorem State.outputMultiple_reg_b : (s.outputMultiple step).main.b = s.main.b - 1 := rfl

theorem State.outputMultiple_pc : (s.outputMultiple step).pc = s.pc := rfl

theorem State.outputMultiple_hl : (s.outputMultiple step).hl = s.hl + step.signExtend 16 :=
  high_append_low (s.hl + step.signExtend 16)

end

/-! ### The obligations -/

/-- Settles O41: an input ends in `portRead` and the register and flag writes of its rule, an output in `portWrite`. -/
theorem portsAreAccessedOnce : Obligations.PortsAreAccessedOnce := by
  intro s reads into withFlags
  have value : ∀ w ws, s.ioIn = w :: ws → s.portValue = w := State.portValue_eq_head
  have intoReg (port : Word) (r : Reg8) : into r s.portValue ((s.portRead port).setR8 r s.portValue) :=
    ⟨State.setR8_same _ r _, fun q hq => s.portRead_setR8_other port r q _ hq⟩
  have inFlagged {i : Instr} {port : Word} {r : Reg8}
      (hi : exec i s = .next (((s.portRead port).setR8 r s.portValue).setFlags (inFlags s.main.f s.portValue))) :
      reads i port (withFlags r) := by
    obtain ⟨hsame, hother⟩ := intoReg port r
    exact ⟨_, _, hi, value, ⟨⟨(State.setFlags_r8 _ _ r).trans hsame, fun q hq => (State.setFlags_r8 _ _ q).trans (hother q hq)⟩,
      State.setFlags_are (inFlags_are_byte s.main.f s.portValue)⟩, rfl⟩
  have inA (n : Byte) : reads (.inAN n) (s.main.a ++ n) (fun v t => into .a v t ∧ t.main.f = s.main.f) :=
    ⟨_, _, rfl, value, ⟨intoReg (s.main.a ++ n) .a, rfl⟩, rfl⟩
  refine ⟨inA, fun _ => inFlagged rfl, fun _ _ => inFlagged rfl, fun n => ⟨_, _, rfl, value, ⟨fun q => ?others, ?flags⟩, rfl⟩,
    fun _ => rfl, fun _ => rfl, fun _ _ => rfl⟩
  case others => rw [State.setFlags_r8, State.portRead_r8]
  case flags => exact State.setFlags_are (logicFlags_are s.main.f (s.portValue &&& n) true)

/-- Settles O42: all four are `inputByte`, the repeating ones with `repeatB` after it. -/
theorem blockInputs : Obligations.BlockInputs := by
  intro s inputs
  have input {i : Instr} {delta : Word} {again : Bool}
      (hi : exec i s = .next (if again then (s.inputByte delta).repeatB else s.inputByte delta)) : inputs i delta again := by
    rw [State.ite_repeatB_eq_setPc (s.inputByte_reg_b delta) (s.inputByte_pc delta)] at hi
    have only := s.inputByte_onlyStores delta
    refine ⟨_, _, hi, State.portValue_eq_head, (s.inputByte_writes delta).setPc _, s.inputByte_hl delta, s.inputByte_reg_b delta,
      s.inputByte_flags_are delta, rfl, ?frame⟩
    case frame =>
      rw [(only.setPc _).main_eq, (only.setPc _).fresh_eq]
      exact only.setPc _
  exact ⟨input rfl, input rfl, input rfl, input rfl⟩

/-- Settles O43: OUTD and OTDR are `outputDown`, OUTI and OTIR `outputUp`, the repeating ones with `repeatB` after it. -/
theorem blockOutputs : Obligations.BlockOutputs := by
  intro s f last outputs
  have down {i : Instr} {again : Bool} (hi : exec i s = .next (if again then s.outputDown.repeatB else s.outputDown)) :
      outputs i (-1) again last f.pv true := by
    rw [State.ite_repeatB_eq_setPc s.outputDown_reg_b s.outputDown_pc] at hi
    exact ⟨_, hi, s.outputDown_hl, s.outputDown_reg_b, State.setFlags_are (blockIoFlags_are f s.main.b), rfl, rfl⟩
  have up {i : Instr} {again : Bool} (hi : exec i s = .next (if again then s.outputUp.repeatB else s.outputUp)) :
      outputs i 1 again f.z last false := by
    rw [State.ite_repeatB_eq_setPc s.outputUp_reg_b s.outputUp_pc] at hi
    exact ⟨_, hi, s.outputUp_hl, s.outputUp_reg_b, State.setFlags_are (outiFlags_are f s.main.b), rfl, rfl⟩
  exact ⟨down rfl, down rfl, up rfl, up rfl⟩

/-- Settles O44: all four are `outputMultiple`, the repeating ones with `repeatB` after it; the step of HL is the sign-extended one of C. -/
theorem blockMultipleOutputs : Obligations.BlockMultipleOutputs := by
  intro s m b outputs
  have output {i : Instr} {deltaHl : Word} {step : Byte} {again : Bool} (hstep : step.signExtend 16 = deltaHl)
      (hi : exec i s = .next (if again then (s.outputMultiple step).repeatB else s.outputMultiple step)) :
      outputs i deltaHl step again := by
    rw [State.ite_repeatB_eq_setPc (s.outputMultiple_reg_b step) (s.outputMultiple_pc step)] at hi
    subst hstep
    exact ⟨_, hi, s.outputMultiple_hl step, rfl, s.outputMultiple_reg_b step,
      State.setFlags_are (otimFlags_are s.main.f s.main.b m), rfl, rfl⟩
  have up : (1 : Byte).signExtend 16 = 1 := by decide
  have down : (-1 : Byte).signExtend 16 = -1 := by decide
  exact ⟨output up rfl, output down rfl, output up rfl, output down rfl⟩

end Sys2Proof.Machine

/-! Traps and interrupts (60_exceptions.md sections 1 to 4): undefined encodings (O48), the Execute Inhibit (O49) and Write Protect (O50)
traps, the two acknowledges (O51, O52), and the choice of the interrupt controller (O53). Every trap and acknowledge ends in `enter`,
whose push stores; what each adds to it are latches set before the push or a Fatal Error after. -/

namespace Sys2Proof.Machine

open Sys2Proof

/-! ### Stores with a Fatal Error around them -/

/-- A Fatal Error under a condition, as the latches show it (R512). -/
def State.fatalIf (s : State) (b : Bool) : State :=
  { s with
    sys := { s.sys with rstFatal := s.sys.rstFatal || b }
    fatalDetect := s.fatalDetect || b
    resetReq := s.resetReq || b }

theorem State.fatalIf_false (s : State) : s.fatalIf false = s := by
  simp only [State.fatalIf, Bool.or_false]

theorem State.fatalIf_true (s : State) : s.fatalIf true = s.fatalError := by
  simp only [State.fatalIf, Bool.or_true, State.fatalError]

theorem State.ite_fatalError (s : State) (b : Bool) : (if b then s.fatalError else s) = s.fatalIf b := by
  cases b with
  | false => exact s.fatalIf_false.symm
  | true => exact s.fatalIf_true.symm

section
variable {s t : State} {stack : Bool} {ws : List (Word × Byte)}

/-- A Fatal Error after the writes may as well come before them. -/
theorem State.protection.fatalIf (h : s.protection t stack ws) (b : Bool) : (s.fatalIf b).protection (t.fatalIf b) stack ws := by
  cases b with
  | false => simpa only [State.fatalIf_false] using h
  | true =>
    simp only [State.fatalIf_true]
    have hi (la : Word) : s.fatalError.inhibited la = s.inhibited la := rfl
    unfold State.protection at *
    simp only [hi]
    split at h
    all_goals
      obtain ⟨hsys, hwp, -, -⟩ := h
      exact ⟨congrArg (fun y : SysStatus => { y with rstFatal := true }) hsys, hwp, rfl, rfl⟩

theorem State.writes.fatalIf (h : s.writes t stack ws) (b : Bool) : (s.fatalIf b).writes (t.fatalIf b) stack ws :=
  ⟨h.1, h.2.fatalIf b⟩

theorem State.onlyStores.fatalIf (h : s.onlyStores t) (b : Bool) : s.onlyStores (t.fatalIf b) :=
  congrArg (State.fatalIf · b) h

end

/-! ### Undefined encodings (R505, R506) -/

section
variable {s : State}

theorem State.runInstruction_illegal2 (h : s.fetched = .illegal2) : s.runInstruction = .next (s.illegal2Trap s.pc) := by
  rw [State.runInstruction, h]

theorem State.runInstruction_illegal3 {y : Idx} {d : Byte} (h : s.fetched = .illegal3 y d) :
    s.runInstruction = .next (s.illegal3Trap s.pc) := by
  rw [State.runInstruction, h]

/-- A sequential boundary with nothing in the way of the fetch is item 8 of R18. -/
theorem step_runs (hs : s.Sequential) (hf : s.MayFetch) : step s = s.runInstruction := by
  rw [step_sequential s hs, s.proceed_mayFetch hs.running hf]

end

/-- The state in which an illegal-instruction trap is entered: its pin, and in the MPU its status bit and address. -/
theorem State.illegal2Trap_eq (s : State) (start : Word) :
    s.illegal2Trap start =
      ({ s with
        sys := if s.isMpu then
            { s.sys with trapI2 := true, trapLa := start, trapPa := (s.translate start).extractLsb' 12 16 }
          else s.sys
        trace := .inst2Trap :: s.trace } : State).trapEntry (start + 1) := by
  cases h : s.isMpu <;> simp only [State.illegal2Trap, State.isMpu_congr (State.emit_params s _), h] <;> rfl

theorem State.illegal3Trap_eq (s : State) (start : Word) :
    s.illegal3Trap start =
      ({ s with
        sys := if s.isMpu then
            { s.sys with trapI3 := true, trapLa := start + 2, trapPa := (s.translate (start + 2)).extractLsb' 12 16 }
          else s.sys
        trace := .inst3Trap :: s.trace } : State).trapEntry (start + 2) := by
  cases h : s.isMpu <;> simp only [State.illegal3Trap, State.isMpu_congr (State.emit_params s _), h] <;> rfl

/-- Settles O48: both traps are `trapEntry` of the state with the pin and the latches, and its push stores. -/
theorem undefinedEncodingsTrap : Obligations.UndefinedEncodingsTrap := by
  intro s hs hf at' traps page
  have hfetch : s.fetched = at' := s.fetched_eq
  have trap {y : SysStatus} {stacked : Word} {pin : Signal}
      (hstep : step s = .next (({ s with sys := if s.isMpu then y else s.sys, trace := pin :: s.trace } : State).trapEntry stacked)) :
      traps y stacked pin :=
    ⟨_, hstep, State.writes_from (State.trapEntry_writes _ stacked) rfl rfl rfl rfl rfl rfl rfl rfl,
      State.trapEntry_onlyStores _ stacked⟩
  refine ⟨fun h => trap ?_, fun y d h => trap ?_⟩
  · rw [step_runs hs hf, State.runInstruction_illegal2 (hfetch.trans h), State.illegal2Trap_eq]
  · rw [step_runs hs hf, State.runInstruction_illegal3 (hfetch.trans h), State.illegal3Trap_eq]

/-! ### Boundaries that go straight to the fetch -/

/-- What a sequential boundary and one held off by NOSAMPLE have in common: items 3 to 5 of R18 do nothing. -/
structure State.GoesToFetch (s : State) : Prop where
  step_eq : step s = { s with noSample := false, script := [] }.proceed
  resetReq : s.resetReq = false
  running : s.runState = .run

theorem State.goesToFetch {s : State} (h : s.Sequential ∨ s.HeldOff) : s.GoesToFetch := by
  rcases h with h | h
  · have hs : ({ s with noSample := false, script := [] } : State) = s := by
      rw [← h.noSample, ← h.undisturbed.script]
    exact ⟨by rw [hs, step_sequential s h], h.undisturbed.resetReq, h.running⟩
  · exact ⟨step_heldOff h, h.resetReq, h.running⟩

/-! ### The Execute Inhibit trap (R510) -/

/-- Page 0 is the first 4096 logical addresses (R101). -/
theorem inPage0_eq (la : Word) : inPage0 la = decide (la.toNat < 4096) := by
  rw [Bool.eq_iff_iff, inPage0, beq_iff_eq, decide_eq_true_iff, BitVec.toNat_eq, BitVec.extractLsb'_toNat,
    Nat.shiftRight_eq_div_pow]
  have := la.isLt
  simp only [BitVec.ofNat_eq_ofNat, BitVec.toNat_ofNat]
  omega

theorem State.proceed_execInhibit {s : State} (hr : s.runState = .run) (hw : s.wpPending = false) (hb : s.staleBuffer = false)
    (hp : s.staleRepeat = false) (hx : s.execInh (s.translate s.pc) = true) : s.proceed = .next s.execInhibitTrap := by
  simp [State.proceed, hr, hw, hb, hp, hx]

/-- The state in which the trap is entered. -/
def State.execInhibitLatched (s : State) : State := { s with sys := { s.sys with trapXp := true } }.latchTrap s.pc

theorem State.execInhibitTrap_eq (s : State) :
    s.execInhibitTrap = (s.execInhibitLatched.trapEntry (s.pc + 1)).fatalIf (decide (s.pc.toNat < 4096)) := by
  rw [← inPage0_eq, ← State.ite_fatalError]
  rfl

/-- Settles O49: the trap is `trapEntry` after the latches of R510, and in Page 0 a Fatal Error after it. -/
theorem executeInhibitTraps : Obligations.ExecuteInhibitTraps := by
  intro s h hw hb hp hx page0 u
  obtain ⟨hstep, hreset, hrun⟩ := State.goesToFetch h
  let v : State := { s with noSample := false, script := [] }
  have htrap : step s = .next ((v.execInhibitLatched.trapEntry (s.pc + 1)).fatalIf page0) := by
    rw [hstep, State.proceed_execInhibit (s := v) hrun hw hb hp hx, State.execInhibitTrap_eq]
  have hu : (v.execInhibitLatched.fatalIf page0).resetReq = u.resetReq := by
    change (s.resetReq || page0) = page0
    rw [hreset, Bool.false_or]
  exact ⟨_, htrap, State.writes_from ((v.execInhibitLatched.trapEntry_writes _).fatalIf page0) rfl rfl rfl rfl rfl rfl rfl hu,
    (v.execInhibitLatched.trapEntry_onlyStores _).fatalIf page0⟩

/-! ### The Write Protect trap (R511) -/

theorem State.trapEntry_fresh (s : State) (stacked : Word) : (s.trapEntry stacked).fresh = s.fresh := by
  simp [State.trapEntry, State.enter]

theorem State.proceed_writeProtect {s : State} (hr : s.runState = .run) (hm : s.isMpu = true) (hw : s.wpPending = true) :
    s.proceed = .next s.writeProtectTrap := by
  simp [State.proceed, hr, hm, hw]

/-- The state in which the jammed RST 0 pushes, once the trap is pending no more: free values in the trap latches where the fetch is
execute-inhibited too (UD8). -/
def State.writeProtectLatched (s : State) : State :=
  if s.execInh (s.translate s.pc) then State.doubleJam { s with wpPending := false } else { s with wpPending := false }

theorem State.writeProtectTrap_eq (s : State) :
    s.writeProtectTrap = (s.writeProtectLatched.trapEntry (s.pc + 1)).fatalIf
      (s.execInh (s.translate s.pc) && decide (s.pc.toNat < 4096)) := by
  rw [← inPage0_eq, ← State.ite_fatalError]
  cases hx : s.execInh (s.translate s.pc) with
  | false => simp [State.writeProtectTrap, State.writeProtectLatched, hx]
  | true => simp [State.writeProtectTrap, State.writeProtectLatched, hx]

/-- Of the latches only those of UD8 can differ, and they do only where both jams meet. -/
theorem State.writeProtectLatched_cases (s : State) :
    ∃ y n, s.writeProtectLatched = { s with wpPending := false, sys := y, fresh := n } ∧
      y = { s.sys with trapWp := y.trapWp, trapXp := y.trapXp, trapLa := y.trapLa, trapPa := y.trapPa } ∧
      (s.execInh (s.translate s.pc) = false → y = s.sys ∧ n = s.fresh) := by
  unfold State.writeProtectLatched
  split
  case isTrue hx => exact ⟨_, _, rfl, rfl, fun h => absurd (hx.symm.trans h) (by decide)⟩
  case isFalse => exact ⟨_, _, rfl, rfl, fun _ => ⟨rfl, rfl⟩⟩

/-- Settles O50: the trap is `trapEntry` with the trap pending no more, and a Fatal Error after it where both jams meet in Page 0. -/
theorem pendingWriteProtectTraps : Obligations.PendingWriteProtectTraps := by
  intro s h hm hw both fatal
  obtain ⟨hstep, hreset, hrun⟩ := State.goesToFetch h
  let v : State := { s with noSample := false, script := [] }
  obtain ⟨y, n, hlatched, hy, hsingle⟩ := v.writeProtectLatched_cases
  let l : State := { v with wpPending := false, sys := y, fresh := n }
  let u : State := { s with
    sys := { y with rstFatal := s.sys.rstFatal || fatal }
    wpPending := false
    fatalDetect := s.fatalDetect || fatal
    resetReq := fatal }
  have htrap : step s = .next ((l.trapEntry (s.pc + 1)).fatalIf fatal) := by
    rw [hstep, State.proceed_writeProtect (s := v) hrun hm hw, State.writeProtectTrap_eq, hlatched]
    rfl
  have hwrites : u.writes ((l.trapEntry (s.pc + 1)).fatalIf fatal) true (s.pushed (s.pc + 1)) := by
    refine State.writes_from ((l.trapEntry_writes (s.pc + 1)).fatalIf fatal) rfl rfl rfl rfl ?_ rfl rfl ?_
    · exact congrArg (fun b => { y with rstFatal := b || fatal }) (congrArg SysStatus.rstFatal hy)
    · change (s.resetReq || fatal) = fatal
      rw [hreset, Bool.false_or]
  have hfresh : ((l.trapEntry (s.pc + 1)).fatalIf fatal).fresh = n := l.trapEntry_fresh _
  refine ⟨_, u.sys, htrap, hwrites.1, ?only, ?latches, ?single, hwrites.2⟩
  case only =>
    rw [hfresh]
    exact (l.trapEntry_onlyStores (s.pc + 1)).fatalIf fatal
  case latches => exact congrArg (fun z => { z with rstFatal := s.sys.rstFatal || fatal }) hy
  case single =>
    intro hb
    obtain ⟨hys, hn⟩ := hsingle hb
    have hf : fatal = false := by rw [show fatal = (both && _) from rfl, hb, Bool.false_and]
    refine ⟨?_, hfresh.trans hn⟩
    change { y with rstFatal := s.sys.rstFatal || fatal } = s.sys
    rw [hys, hf, Bool.or_false]

/-! ### The acknowledges (R530, R532) -/

/-- Settles O51: the acknowledge is `enter` with the request taken, and comes before any maskable one. -/
theorem nonMaskableAcknowledge : Obligations.NonMaskableAcknowledge := by
  intro s h hn hm
  have hstep : step s = .next s.nmiAck := by rw [step_undisturbed s h hn, if_pos hm]
  exact ⟨_, hstep, State.writes_from (State.enter_writes _ _ _) rfl rfl rfl rfl rfl rfl rfl rfl, State.enter_onlyStores _ _ _⟩

/-! ### The interrupt controller (R542, R543, R545) -/

/-- Mode 2 vectors: the offset, the number of the request, and a zero (R545). -/
theorem State.vectorOf_im2 {s : State} (h : s.im = .im2) {k : Nat} (hk : k < 16) :
    (s.vectorOf k).toNat = 32 * s.pins.ivecOffset.toNat + 2 * k := by
  simp only [State.vectorOf, h]
  rw [toNat_append_add, toNat_append_add, BitVec.toNat_ofNat, Nat.mod_eq_of_lt hk, BitVec.toNat_ofNat]
  omega

/-- In the other modes the vector is an RST instruction (R545). -/
theorem State.vectorOf_rst {s : State} (h : s.im ≠ .im2) (k : Nat) :
    (s.vectorOf k).toNat = 199 + 8 * s.pins.ivecOffset.toNat := by
  have hv : s.vectorOf k = 0b11#2 ++ s.pins.ivecOffset ++ 0b111#3 := by
    cases hm : s.im with
    | im2 => exact absurd hm h
    | im0 | im1 => simp only [State.vectorOf, hm]
  rw [hv, toNat_append_add, toNat_append_add, BitVec.toNat_ofNat, BitVec.toNat_ofNat]
  omega

theorem getLsbD_or_bit16 (x : BitVec 16) {j k : Nat} (hk : k < 16) :
    (x ||| bit16 j).getLsbD k = (x.getLsbD k || decide (k = j)) := by
  rw [BitVec.getLsbD_or, bit16, BitVec.getLsbD_twoPow]
  by_cases h : k = j
  · simp [← h, hk]
  · simp [h, Ne.symm h]

section
variable {s : State} {k : Nat}

theorem State.controllerAck_cpu (hc : s.params.variant = .cpu) : s.controllerAck = s := by
  simp [State.controllerAck, hc]

theorem State.controllerAck_mpu (hm : s.params.variant = .mpu) (ht : s.topRequest = some k) :
    s.controllerAck = { s with
      irq := ⟨s.irq.latch &&& ~~~bit16 k, s.irq.ius ||| bit16 k⟩
      trace := .intAckBus (bit16 k) :: s.trace } := by
  simp only [State.controllerAck, hm, ht]
  rfl

theorem State.ackVector_cpu (hc : s.params.variant = .cpu) : s.ackVector = s.pins.ivecDataIn := by
  simp only [State.ackVector, hc]

theorem State.ackVector_mpu (hm : s.params.variant = .mpu) (ht : s.topRequest = some k) : s.ackVector = s.vectorOf k := by
  simp only [State.ackVector, hm, ht]

theorem State.topRequest_of_intReq (hm : s.params.variant = .mpu) (hq : s.intReq = true) : ∃ k, s.topRequest = some k := by
  simp only [State.intReq, hm] at hq
  exact Option.isSome_iff_exists.mp hq

end

/-- The acknowledge changes the controller and shows its pins; the rest is `enter` (R532). -/
theorem State.intAck_of_controllerAck {s : State} {irq : IrqController} {pins : List Signal}
    (h : s.controllerAck = { s with irq := irq, trace := pins ++ s.trace }) :
    s.intAck = ({ s with
      irq := irq
      trace := .iackTran :: pins ++ s.trace
      runState := .run
      iff1 := false
      iff2 := false
      prefetched := none
      repeating := none } : State).enter s.pc (s.ackTarget s.ackVector) := by
  unfold State.intAck
  rw [h]
  rfl

/-- Mode 0 takes the RST instruction in the vector (R533). -/
theorem State.ackTarget_im0 {s : State} (h : s.im = .im0) (v : Byte) : (s.ackTarget v).toNat = v.toNat / 8 % 8 * 8 := by
  simp only [State.ackTarget, h]
  rw [toNat_append_add, toNat_append_add, BitVec.extractLsb'_toNat, Nat.shiftRight_eq_div_pow]
  simp

theorem State.ackTarget_im1 {s : State} (h : s.im = .im1) (v : Byte) : s.ackTarget v = 0x0038 := by
  simp only [State.ackTarget, h]

theorem State.ackTarget_im2 {s : State} (h : s.im = .im2) (v : Byte) : s.ackTarget v = s.readWord (s.i ++ v) := by
  simp only [State.ackTarget, h]

/-- Settles O52: one acknowledge for both variants, once the controller's part in it is known. -/
theorem maskableAcknowledge : Obligations.MaskableAcknowledge := by
  intro s h hn hm hq hi
  have hstep : step s = .next s.intAck := by simp [step_undisturbed s h hn, hm, hq, hi]
  have acknowledges {irq : IrqController} {pins : List Signal}
      (hc : s.controllerAck = { s with irq := irq, trace := pins ++ s.trace }) :
      s.writes s.intAck true (s.pushed s.pc) ∧
      (s.im = .im0 → s.intAck.pc.toNat = s.ackVector.toNat / 8 % 8 * 8) ∧ (s.im = .im1 → s.intAck.pc = 0x0038) ∧
      (s.im = .im2 → s.intAck.pc = s.readWord (s.i ++ s.ackVector)) ∧
      { s with
        runState := .run
        iff1 := false
        iff2 := false
        sp := s.sp - 2
        pc := s.intAck.pc
        irq := irq
        trace := (Signal.iackTran :: pins) ++ s.trace
        prefetched := none
        repeating := none }.onlyStores s.intAck := by
    have hpc : s.intAck.pc = s.ackTarget s.ackVector := rfl
    rw [hpc]
    refine ⟨?_, fun h0 => State.ackTarget_im0 h0 _, fun h1 => State.ackTarget_im1 h1 _,
      fun h2 => State.ackTarget_im2 h2 _, ?_⟩
    · rw [State.intAck_of_controllerAck hc]
      exact State.writes_from (State.enter_writes _ _ _) rfl rfl rfl rfl rfl rfl rfl rfl
    · rw [State.intAck_of_controllerAck hc]
      exact State.enter_onlyStores _ _ _
  cases hv : s.params.variant with
  | cpu =>
    obtain ⟨hw, h0, h1, h2, ho⟩ := acknowledges (irq := s.irq) (pins := []) (State.controllerAck_cpu hv)
    exact ⟨_, _, _, _, hstep, hw, fun _ => ⟨State.ackVector_cpu hv, rfl, rfl⟩, nofun, h0, h1, h2, ho⟩
  | mpu =>
    obtain ⟨k, hk⟩ := State.topRequest_of_intReq hv hq
    have hlt : k < 16 := (byPriority_find_eq_some hk).1
    have hvec : s.ackVector = s.vectorOf k := State.ackVector_mpu hv hk
    obtain ⟨hw, h0, h1, h2, ho⟩ := acknowledges (pins := [.intAckBus (bit16 k)]) (State.controllerAck_mpu hv hk)
    refine ⟨_, _, _, _, hstep, hw, nofun, fun _ => ⟨k, hlt, hk, ?_, ?_, ?_, ?_, rfl⟩, h0, h1, h2, ho⟩
    · exact fun him => hvec ▸ State.vectorOf_im2 him hlt
    · exact fun him => hvec ▸ State.vectorOf_rst him k
    · exact fun j hj => getLsbD_and_not_bit16 s.irq.latch hj
    · exact fun j hj => getLsbD_or_bit16 s.irq.ius hj

/-! ### The choice of the controller (R542) -/

/-- An input is eligible when it is latched, enabled, and no Interrupt-Under-Service bit of its own or of a higher priority is set. -/
theorem State.eligible_iff {s : State} {i : Nat} :
    s.eligible i = true ↔ s.irq.latch.getLsbD i = true ∧ s.pins.intReqEn.getLsbD i = true ∧
      ¬∃ j, j < 16 ∧ s.irq.ius.getLsbD j = true ∧ (j = i ∨ higher s.params.intPriorityOrder j i = true) := by
  simp only [State.eligible, State.blocked, Bool.and_eq_true, Bool.not_eq_true', and_assoc, ← Bool.not_eq_true,
    List.any_eq_true, List.mem_range, Bool.or_eq_true, beq_iff_eq]

/-- The search gives the input that is higher than every other one with the property (R542). -/
theorem byPriority_find_eq_some_iff {o : PriorityOrder} {p : Nat → Bool} {k : Nat} :
    (byPriority o).find? p = some k ↔ k < 16 ∧ p k = true ∧ ∀ j, j < 16 → p j = true → j ≠ k → higher o k j = true := by
  refine ⟨byPriority_find_eq_some, ?_⟩
  rintro ⟨hk, hp, hbest⟩
  cases hfind : (byPriority o).find? p with
  | none => exact absurd (hp.symm.trans (byPriority_find_eq_none hfind hk)) (by decide)
  | some j =>
    obtain ⟨hj, hpj, hfirst⟩ := byPriority_find_eq_some hfind
    by_cases h : j = k
    · rw [h]
    · have hjk := hfirst k hk hp (Ne.symm h)
      exact absurd ((hbest j hj hpj h).symm.trans (higher_asymm hjk)) (by decide)

/-- Settles O53: `topRequest` is the search for an eligible input in the order of priority. -/
theorem controllerPicksTheHighestEligible : Obligations.ControllerPicksTheHighestEligible := by
  intro s beats blocked eligible
  have hbeats (j i : Nat) : higher s.params.intPriorityOrder j i = true ↔ beats j i := by
    cases ho : s.params.intPriorityOrder <;> simp only [beats, ho, higher, decide_eq_true_iff]
  have heligible (i : Nat) : s.eligible i = true ↔ eligible i := by
    simp only [State.eligible_iff, hbeats, eligible, blocked]
  refine ⟨fun k => ?_, ?_⟩
  · simp only [← hbeats, ← heligible]
    exact byPriority_find_eq_some_iff
  · simp only [← heligible]
    exact List.find?_eq_none.trans (forall_congr' fun k => imp_congr_left mem_byPriority)

end Sys2Proof.Machine

/-! The events of the environment (10_state.md R58) as clocks pass, pins change and masters ask for the bus: the reset that takes a step
(O7), the hazards at which a step stops (O11), the bus grant (O54), the Watch-Dog (O55), the pins and filters (O56), the causes of a reset
(O57) and the time-outs (O58). A layer of its own says first what one event leaves, and of clocks which part of the machine each timer
moves; the timers move different parts, so what one of them leaves is what the whole passage of time leaves there. -/

namespace Sys2Proof.Machine

open Sys2Proof

/-! ### One event of a tick -/

section
variable {s : State} {d : Option DmaRequest} {rest : List Tick}

theorem State.afterEvents_event {e : EnvEvent} (h : s.script = ⟨[e], d⟩ :: rest) :
    s.afterEvents = ({ s with script := rest } : State).absorb e := by
  simp [State.afterEvents, State.tick, State.absorbAll, h]

theorem State.afterEvents_clocks {n : Nat} (hm : s.isMpu = true) (h : s.script = ⟨[.clocks n], d⟩ :: rest) :
    s.afterEvents =
      (((({ s with script := rest } : State).watchDogTime n).rtiTime n).limiterTime n).resetBusTime n :=
  (State.afterEvents_event h).trans (if_pos hm)

end

/-! ### The Watch-Dog (R576 to R578) -/

/-- The Watch-Dog reaches its period within `n` clocks. -/
def State.watchDogReaches (s : State) (n : Nat) : Prop :=
  s.wdt.enabled = true ∧ s.wdt.count < watchDogPeriod s.wdt.limit ∧ watchDogPeriod s.wdt.limit ≤ s.wdt.count + n

section
variable {s : State} {n : Nat}

/-- At the period `wdt_timeout` pulses, the cause is recorded and a reset requested (R578). -/
theorem State.watchDogTime_reached (h : s.watchDogReaches n) :
    s.watchDogTime n = { s with
      wdt := ⟨true, s.wdt.count + n, s.wdt.limit, s.wdt.arm - n⟩
      sys := { s.sys with rstWdt := true }
      resetReq := true
      trace := .wdtTimeout :: s.trace } := by
  obtain ⟨he, hc, hp⟩ := h
  simp only [State.watchDogTime, he, hc, hp, if_true, and_self]
  rfl

/-- Otherwise the count of an enabled Watch-Dog and the arm window run on. -/
theorem State.watchDogTime_counts (h : ¬s.watchDogReaches n) :
    s.watchDogTime n = { s with
      wdt := ⟨s.wdt.enabled, if s.wdt.enabled then s.wdt.count + n else s.wdt.count, s.wdt.limit, s.wdt.arm - n⟩ } := by
  refine if_neg ?_
  rintro ⟨he, hc, hp⟩
  rw [if_pos he] at hp
  exact h ⟨he, hc, hp⟩

/-- `t` is `s` but for the Watch-Dog and what its time-out does. -/
def State.OnlyWatchDog (s t : State) : Prop :=
  t = { s with wdt := t.wdt, sys := { s.sys with rstWdt := t.sys.rstWdt }, resetReq := t.resetReq, trace := t.trace }

theorem State.watchDogTime_onlyWatchDog (s : State) (n : Nat) : s.OnlyWatchDog (s.watchDogTime n) := by
  by_cases h : s.watchDogReaches n
  · rw [State.watchDogTime_reached h]
    rfl
  · rw [State.watchDogTime_counts h]
    rfl

end

/-! ### What each timer shows on the pins -/

/-- `t` shows what `s` showed and, since then, signals from `xs` only. -/
def State.Shows (s t : State) (xs : List Signal) : Prop := ∃ new, t.trace = new ++ s.trace ∧ ∀ x ∈ new, x ∈ xs

namespace State.Shows

variable {s t u : State} {xs ys : List Signal}

theorem of_eq (h : t.trace = s.trace) : s.Shows t xs := ⟨[], h, nofun⟩

theorem trans (h : s.Shows t xs) (k : t.Shows u ys) : s.Shows u (xs ++ ys) := by
  obtain ⟨a, ha, hxs⟩ := h
  obtain ⟨b, hb, hys⟩ := k
  refine ⟨b ++ a, by rw [hb, ha, List.append_assoc], fun x hx => ?_⟩
  rcases List.mem_append.mp hx with hx | hx
  · exact List.mem_append_right _ (hys x hx)
  · exact List.mem_append_left _ (hxs x hx)

/-- A signal that was shown stays in the trace. -/
theorem mem (h : s.Shows t xs) {x : Signal} (hx : x ∈ s.trace) : x ∈ t.trace := by
  obtain ⟨a, ha, -⟩ := h
  rw [ha]
  exact List.mem_append_right _ hx

/-- Any other signal is shown as often as before. -/
theorem count (h : s.Shows t xs) {x : Signal} (hx : x ∉ xs) : t.trace.count x = s.trace.count x := by
  obtain ⟨a, ha, hxs⟩ := h
  rw [ha, List.count_append, List.count_eq_zero.mpr (fun hm => hx (hxs x hm)), Nat.zero_add]

end State.Shows

section
variable (s : State) (n : Nat)

theorem State.watchDogTime_shows : s.Shows (s.watchDogTime n) [.wdtTimeout] := by
  by_cases h : s.watchDogReaches n
  · rw [State.watchDogTime_reached h]
    exact ⟨[.wdtTimeout], rfl, fun _ hx => hx⟩
  · rw [State.watchDogTime_counts h]
    exact .of_eq rfl

theorem State.rtiPulses_shows (k : Nat) : s.Shows (s.rtiPulses k) [.rtiPulse] :=
  ⟨List.replicate k .rtiPulse, rfl, fun _ hx => List.mem_singleton.mpr (List.eq_of_mem_replicate hx)⟩

theorem State.rtiRun_shows : s.Shows (s.rtiRun n) [.rtiPulse] := State.rtiPulses_shows _ _

theorem State.refClockFiltered_shows : s.Shows s.refClockFiltered [.rtiPulse] := by
  unfold State.refClockFiltered
  dsimp only
  split
  · split
    · exact State.rtiPulses_shows _ 1
    · exact .of_eq rfl
  · exact .of_eq rfl

theorem State.rtiTime_shows : s.Shows (s.rtiTime n) [.rtiPulse] := by
  have hrti : ∀ x ∈ ([.rtiPulse] ++ [.rtiPulse] ++ [.rtiPulse] : List Signal), x ∈ [Signal.rtiPulse] := by decide
  unfold State.rtiTime
  split
  · exact s.rtiRun_shows n
  split
  · exact State.rtiRun_shows _ n
  · obtain ⟨new, hnew, hmem⟩ := ((s.rtiRun_shows _).trans (State.refClockFiltered_shows _)).trans
      (State.rtiRun_shows _ (n - (filterClocks - s.rti.held)))
    exact ⟨new, hnew, fun x hx => hrti x (hmem x hx)⟩

theorem State.limiterTime_shows : s.Shows (s.limiterTime n) [.drqTimeout] := by
  unfold State.limiterTime
  dsimp only
  split
  · exact .of_eq rfl
  · unfold State.limitGrant
    split
    · exact ⟨[.drqTimeout], rfl, fun _ hx => hx⟩
    · exact .of_eq rfl


end

/-! ### The passage of time, part by part -/

/-- `t` is `s` but for the timers, the filters and what they drive. -/
def State.OnlyTime (s t : State) : Prop :=
  t = { s with
    nmiPending := t.nmiPending
    dma := t.dma
    wdt := t.wdt
    rti := t.rti
    resetFilter := t.resetFilter
    sys := t.sys
    resetReq := t.resetReq
    trace := t.trace
    fresh := t.fresh }

theorem State.OnlyTime.trans {s t u : State} (h : s.OnlyTime t) (k : t.OnlyTime u) : s.OnlyTime u := by
  unfold State.OnlyTime at *
  rw [k, h]

section
variable (s : State) (n : Nat)

@[simp] theorem State.watchDogTime_dma : (s.watchDogTime n).dma = s.dma := by rw [s.watchDogTime_onlyWatchDog n]
@[simp] theorem State.watchDogTime_rti : (s.watchDogTime n).rti = s.rti := by rw [s.watchDogTime_onlyWatchDog n]
@[simp] theorem State.watchDogTime_resetFilter : (s.watchDogTime n).resetFilter = s.resetFilter := by
  rw [s.watchDogTime_onlyWatchDog n]
@[simp] theorem State.watchDogTime_nmiPending : (s.watchDogTime n).nmiPending = s.nmiPending := by
  rw [s.watchDogTime_onlyWatchDog n]
@[simp] theorem State.watchDogTime_pins : (s.watchDogTime n).pins = s.pins := by rw [s.watchDogTime_onlyWatchDog n]
@[simp] theorem State.watchDogTime_params : (s.watchDogTime n).params = s.params := by rw [s.watchDogTime_onlyWatchDog n]
@[simp] theorem State.watchDogTime_drqTo : (s.watchDogTime n).sys.drqTo = s.sys.drqTo := by
  rw [s.watchDogTime_onlyWatchDog n]
@[simp] theorem State.watchDogTime_rb1Trans : (s.watchDogTime n).sys.rb1Trans = s.sys.rb1Trans := by
  rw [s.watchDogTime_onlyWatchDog n]
@[simp] theorem State.watchDogTime_rb0Trans : (s.watchDogTime n).sys.rb0Trans = s.sys.rb0Trans := by
  rw [s.watchDogTime_onlyWatchDog n]

@[simp] theorem State.rtiTime_dma : (s.rtiTime n).dma = s.dma := by rw [s.rtiTime_onlyRti n]
@[simp] theorem State.rtiTime_wdt : (s.rtiTime n).wdt = s.wdt := by rw [s.rtiTime_onlyRti n]
@[simp] theorem State.rtiTime_resetFilter : (s.rtiTime n).resetFilter = s.resetFilter := by rw [s.rtiTime_onlyRti n]
@[simp] theorem State.rtiTime_sys : (s.rtiTime n).sys = s.sys := by rw [s.rtiTime_onlyRti n]
@[simp] theorem State.rtiTime_resetReq : (s.rtiTime n).resetReq = s.resetReq := by rw [s.rtiTime_onlyRti n]
@[simp] theorem State.rtiTime_pins : (s.rtiTime n).pins = s.pins := by rw [s.rtiTime_onlyRti n]
@[simp] theorem State.rtiTime_params : (s.rtiTime n).params = s.params := by rw [s.rtiTime_onlyRti n]

@[simp] theorem State.limiterTime_wdt : (s.limiterTime n).wdt = s.wdt := by rw [s.limiterTime_onlyLimiter n]
@[simp] theorem State.limiterTime_rti : (s.limiterTime n).rti = s.rti := by rw [s.limiterTime_onlyLimiter n]
@[simp] theorem State.limiterTime_resetFilter : (s.limiterTime n).resetFilter = s.resetFilter := by
  rw [s.limiterTime_onlyLimiter n]
@[simp] theorem State.limiterTime_nmiPending : (s.limiterTime n).nmiPending = s.nmiPending := by
  rw [s.limiterTime_onlyLimiter n]
@[simp] theorem State.limiterTime_resetReq : (s.limiterTime n).resetReq = s.resetReq := by
  rw [s.limiterTime_onlyLimiter n]
@[simp] theorem State.limiterTime_pins : (s.limiterTime n).pins = s.pins := by rw [s.limiterTime_onlyLimiter n]
@[simp] theorem State.limiterTime_rstWdt : (s.limiterTime n).sys.rstWdt = s.sys.rstWdt := by
  rw [s.limiterTime_onlyLimiter n]
@[simp] theorem State.limiterTime_rb1Trans : (s.limiterTime n).sys.rb1Trans = s.sys.rb1Trans := by
  rw [s.limiterTime_onlyLimiter n]
@[simp] theorem State.limiterTime_rb0Trans : (s.limiterTime n).sys.rb0Trans = s.sys.rb0Trans := by
  rw [s.limiterTime_onlyLimiter n]

@[simp] theorem State.resetBusTime_dma : (s.resetBusTime n).dma = s.dma := rfl
@[simp] theorem State.resetBusTime_wdt : (s.resetBusTime n).wdt = s.wdt := rfl
@[simp] theorem State.resetBusTime_nmiPending : (s.resetBusTime n).nmiPending = s.nmiPending := rfl
@[simp] theorem State.resetBusTime_rstWdt : (s.resetBusTime n).sys.rstWdt = s.sys.rstWdt := rfl

/-- Where no DUS bit is set the limiter records nothing. -/
theorem State.limiterTime_sys_of_idle {s : State} (h : s.dma.dus = 0) (n : Nat) : (s.limiterTime n).sys = s.sys := by
  rw [State.limiterTime_idle h]

/-- With both inputs at their filtered level no transition passes. -/
theorem State.resetBusTime_rest {s : State} (h1 : s.pins.resetBus.getLsbD 1 = s.resetFilter.line1.level)
    (h0 : s.pins.resetBus.getLsbD 0 = s.resetFilter.line0.level) (n : Nat) :
    (s.resetBusTime n).resetReq = s.resetReq ∧ (s.resetBusTime n).sys = s.sys := by
  simp only [State.resetBusTime, h1, h0, LevelFilter.passes_self, Bool.or_false, and_self]

/-- A Non-Maskable request stays while the generator runs. -/
theorem State.rtiTime_nmiPending_true {s : State} (h : s.nmiPending = true) (n : Nat) : (s.rtiTime n).nmiPending = true := by
  have hrun (t : State) (k : Nat) (ht : t.nmiPending = true) : (t.rtiRun k).nmiPending = true := by
    simp [State.rtiRun, ht]
  have hedge (t : State) (ht : t.nmiPending = true) : t.refClockFiltered.nmiPending = true := by
    unfold State.refClockFiltered
    dsimp only
    split
    · split
      · simp [ht]
      · exact ht
    · exact ht
  unfold State.rtiTime
  split
  · exact hrun _ _ h
  split
  · exact hrun _ _ h
  · exact hrun _ _ (hedge _ (hrun _ _ h))

theorem State.passTime_mpu {s : State} (hm : s.isMpu = true) (n : Nat) :
    s.passTime n = (((s.watchDogTime n).rtiTime n).limiterTime n).resetBusTime n := if_pos hm

theorem State.passTime_onlyTime : s.OnlyTime (s.passTime n) := by
  have onlyWatchDog {t u : State} (h : t.OnlyWatchDog u) : t.OnlyTime u := by
    unfold State.OnlyTime
    rw [h]
  have onlyRti {t u : State} (h : t.OnlyRti u) : t.OnlyTime u := by
    unfold State.OnlyTime
    rw [h]
  have onlyLimiter {t u : State} (h : t.OnlyLimiter u) : t.OnlyTime u := by
    unfold State.OnlyTime
    rw [h]
  unfold State.passTime
  split
  · exact ((onlyWatchDog (s.watchDogTime_onlyWatchDog n)).trans (onlyRti (State.rtiTime_onlyRti _ n))).trans
      ((onlyLimiter (State.limiterTime_onlyLimiter _ n)).trans rfl)
  · rfl

theorem State.passTime_shows : s.Shows (s.passTime n) [.wdtTimeout, .rtiPulse, .drqTimeout] := by
  unfold State.passTime
  split
  · exact ((s.watchDogTime_shows n).trans (State.rtiTime_shows _ n)).trans (State.limiterTime_shows _ n)
  · exact .of_eq rfl

end

/-! ### The user reset (R600) -/

/-- What a user reset leaves in both variants; what only the MPU has is in `userReset_mpu`. -/
theorem State.userReset_frame (s : State) :
    s.userReset = { s with
      pc := 0
      i := s.params.resetI
      r := s.params.resetR
      sp := s.params.resetSp
      iff1 := false
      iff2 := false
      im := .im0
      runState := .run
      nmiPending := false
      wpPending := false
      noSample := false
      reqSeen := false
      prefetched := none
      repeating := none
      fatalDetect := false
      resetReq := false
      upset := false
      mmu := s.userReset.mmu
      irq := s.userReset.irq
      dma := s.userReset.dma
      wdt := s.userReset.wdt
      sys := { s.sys with drqTo := s.userReset.sys.drqTo, waitTo := s.userReset.sys.waitTo }
      fresh := s.userReset.fresh } := by
  unfold State.userReset
  dsimp only
  split <;> rfl

theorem State.userReset_mpu {s : State} (hm : s.isMpu = true) :
    s.userReset.mmu = ⟨identityMap, identityMap⟩ ∧ s.userReset.irq = ⟨0, 0⟩ ∧ s.userReset.dma = .idleState ∧
      s.userReset.wdt = ⟨false, 0, 0, 0⟩ := by
  have h : s.userReset = _ := if_pos hm
  rw [h]
  exact ⟨rfl, rfl, rfl, rfl⟩

/-- A requested reset is the whole step (R18 item 1). -/
theorem step_reset {s : State} (h : s.afterEvents.resetReq = true) : step s = .next s.afterEvents.userReset := if_pos h

theorem State.afterEvents_nil {s : State} (h : s.script = []) : s.afterEvents = s := by
  have hscript : ({ s with script := [] } : State) = s := by rw [← h]
  simp [State.afterEvents, State.tick, State.absorbAll, h, hscript]

/-- Settles O7: the step is the user reset of the state as it stands. -/
theorem userResetTakesTheStep : Obligations.UserResetTakesTheStep := by
  intro s hs hr
  have ha : s.afterEvents = s := State.afterEvents_nil hs
  have hstep : step s = .next s.userReset := by
    rw [step_reset (by rw [ha, hr]), ha]
  have hmpu (hm : s.isMpu = true) :
      (∀ n : Fin 16, s.userReset.mmu.active[n] = BitVec.ofNat 16 n.val ∧ s.userReset.mmu.buffer[n] = BitVec.ofNat 16 n.val) ∧
        s.userReset.irq.latch = 0 ∧ s.userReset.irq.ius = 0 ∧ s.userReset.dma.dus = 0 ∧ s.userReset.wdt.enabled = false ∧
        s.userReset.wdt.arm = 0 := by
    obtain ⟨hmmu, hirq, hdma, hwdt⟩ := State.userReset_mpu hm
    rw [hmmu, hirq, hdma, hwdt]
    exact ⟨fun n => ⟨identityMap_getElem n, identityMap_getElem n⟩, rfl, rfl, rfl, rfl, rfl⟩
  refine ⟨_, hstep, ?_⟩
  rw [State.userReset_frame]
  exact ⟨rfl, rfl, rfl, rfl, rfl, rfl, rfl, rfl, rfl, rfl, rfl, rfl, rfl, rfl, rfl, hmpu, rfl, rfl, rfl, rfl, rfl, rfl, rfl,
    rfl, rfl⟩

/-! ### Where a step stops (R513, R612, R613) -/

/-- The result goes on. -/
def Goes (x : Result) : Prop := ∃ t, x = .next t

theorem Goes.ite {c : Prop} [Decidable c] {x y : Result} (hx : Goes x) (hy : Goes y) : Goes (if c then x else y) := by
  split
  · exact hx
  · exact hy

/-- No instruction stops the machine: its meaning is one next state, or one for each answer to its condition. -/
theorem exec_goes (i : Instr) (s : State) : Goes (exec i s) := by
  cases i with
  | daa =>
    unfold exec execDaa
    dsimp only
    split <;> exact ⟨_, rfl⟩
  | callCcMn | djnz | jpCcMn | jrCc | retCc => exact .ite ⟨_, rfl⟩ ⟨_, rfl⟩
  | ldmHlMmu | ldmHlMmuh | ldmMmuHl | ldmMmuhHl | ldmsMmuHl | swap | ldmHlSys => exact .ite ⟨_, rfl⟩ ⟨_, rfl⟩
  | wdarm | wdres => exact .ite (.ite ⟨_, rfl⟩ ⟨_, rfl⟩) ⟨_, rfl⟩
  | _ => exact ⟨_, rfl⟩

theorem State.runInstruction_goes (s : State) : Goes s.runInstruction := by
  cases hf : s.fetched with
  | illegal2 => exact ⟨_, State.runInstruction_illegal2 hf⟩
  | illegal3 y d => exact ⟨_, State.runInstruction_illegal3 hf⟩
  | instr i len =>
    obtain ⟨t, ht⟩ := exec_goes i (s.setPc (s.pc + BitVec.ofNat 16 len))
    exact ⟨_, State.runInstruction_next hf ht⟩

/-- Items 5 to 8 of R18 go on, or stop at one of the two hazards. -/
theorem State.proceed_goes_or_hazard (s : State) :
    Goes s.proceed ∨ (s.staleBuffer = true ∧ s.proceed = .refused .prefetchHazard) ∨
      (s.staleRepeat = true ∧ s.proceed = .refused .repeatHazard) := by
  unfold State.proceed
  split
  · exact .inl ⟨_, rfl⟩
  split
  · exact .inl ⟨_, rfl⟩
  split
  case isTrue hb => exact .inr (.inl ⟨hb, rfl⟩)
  split
  case isTrue hp => exact .inr (.inr ⟨hp, rfl⟩)
  split
  · exact .inl ⟨_, rfl⟩
  · exact .inl s.runInstruction_goes

/-- What a stale buffered byte is (R612). -/
theorem State.staleBuffer_iff {s : State} :
    s.staleBuffer = true ↔
      ∃ v, s.prefetched = some v ∧ (s.readByte s.pc ≠ v ∨ s.execInh (s.translate s.pc) = true) := by
  cases h : s.prefetched <;> simp [State.staleBuffer, h, State.codeByte_zero]

/-- What a repeat whose bytes changed is (R613). -/
theorem State.staleRepeat_iff {s : State} :
    s.staleRepeat = true ↔ ∃ v w, s.repeating = some (v, w) ∧
      (s.readByte s.pc ≠ v ∨ s.readByte (s.pc + 1) ≠ w ∨ s.execInh (s.translate s.pc) = true) := by
  cases h : s.repeating <;>
    simp [State.staleRepeat, h, State.codeByte_zero, State.codeByte_one, or_assoc, Prod.ext_iff]

/-- `t` is `s` but for what neither a fetch nor its two buffers look at. -/
def State.SameFetch (s t : State) : Prop :=
  t = { s with runState := t.runState, reqSeen := t.reqSeen, noSample := t.noSample, dma := t.dma }

theorem State.SameFetch.stale {s t : State} (h : s.SameFetch t) :
    t.staleBuffer = s.staleBuffer ∧ t.staleRepeat = s.staleRepeat := by
  rw [h]
  exact ⟨rfl, rfl⟩

theorem State.endGrant_sleepSample_sameFetch (s : State) : s.SameFetch s.endGrant.sleepSample := by
  unfold State.endGrant State.sleepSample
  split <;> split <;> rfl

/-- A boundary after the events goes on, stops at a hazard, or stops at an upset that no reset answers. -/
theorem State.boundary_goes_or_stops (s : State) (d : Option DmaRequest) :
    Goes (s.boundary d) ∨ (s.upset = true ∧ s.boundary d = .fault .mainStateUpset) ∨
      (s.staleBuffer = true ∧ s.boundary d = .refused .prefetchHazard) ∨
      (s.staleRepeat = true ∧ s.boundary d = .refused .repeatHazard) := by
  have proceeds {t : State} (h : s.SameFetch t) :
      Goes t.proceed ∨ (s.upset = true ∧ t.proceed = .fault .mainStateUpset) ∨
        (s.staleBuffer = true ∧ t.proceed = .refused .prefetchHazard) ∨
        (s.staleRepeat = true ∧ t.proceed = .refused .repeatHazard) := by
    obtain ⟨hb, hp⟩ := h.stale
    rw [← hb, ← hp]
    exact t.proceed_goes_or_hazard.imp_right .inr
  unfold State.boundary
  split
  · exact .inl ⟨_, rfl⟩
  split
  case isTrue hu => exact .inr (.inl ⟨hu, rfl⟩)
  split
  · exact proceeds rfl
  unfold State.sampled
  split
  · exact .inl ⟨_, rfl⟩
  dsimp only
  split
  · exact .inl ⟨_, rfl⟩
  split
  · exact .inl ⟨_, rfl⟩
  · exact proceeds s.endGrant_sleepSample_sameFetch

/-- No event changes the parameters. -/
theorem State.absorb_params (s : State) (e : EnvEvent) : (s.absorb e).params = s.params := by
  cases e with
  | pins p =>
    change (s.setPins p).params = s.params
    unfold State.setPins State.latchPins
    split
    · dsimp only
      split <;> rfl
    · rfl
  | nmi => rfl
  | clocks n =>
    change (s.passTime n).params = s.params
    rw [s.passTime_onlyTime n]
  | resetb =>
    dsimp only [State.absorb]
    split <;> rfl
  | clearb =>
    change s.masterReset.params = s.params
    unfold State.masterReset
    dsimp only
    split <;> rfl
  | faultDetect la =>
    change (s.faultUpset la).params = s.params
    unfold State.faultUpset
    dsimp only
    split <;> rfl
  | waitTimeout k =>
    change (s.waitExpires k).params = s.params
    unfold State.waitExpires
    split <;> rfl

theorem State.afterEvents_isMpu (s : State) : s.afterEvents.isMpu = s.isMpu :=
  State.isMpu_congr (List.foldlRecOn (motive := fun t : State => t.params = s.params) _ _ rfl
    fun t ht e _ => (t.absorb_params e).trans ht)

/-- Settles O11: a step stops where its boundary stops; an upset stands in the CPU variant alone, by the invariant after the events. -/
theorem stepStopsOnlyAtUndefinedHazards : Obligations.StepStopsOnlyAtUndefinedHazards := by
  intro s hinv u forbidden
  have hcpu (hu : u.upset = true) : s.isMpu = false := by
    rw [← s.afterEvents_isMpu, ← Bool.not_eq_true]
    exact fun hm => absurd (hu.symm.trans (hinv.afterEvents.mpuNeverUpset hm)) (by decide)
  have hstep : step s = u.boundary s.tick.dma := rfl
  rw [hstep]
  rcases u.boundary_goes_or_stops s.tick.dma with ⟨t, ht⟩ | ⟨hu, ht⟩ | ⟨hb, ht⟩ | ⟨hp, ht⟩
  · rw [ht]
    exact ⟨nofun, nofun⟩
  · rw [ht]
    refine ⟨fun r hr => ?_, nofun⟩
    cases hr
    exact ⟨rfl, hcpu hu, hu⟩
  · rw [ht]
    refine ⟨nofun, fun r hr => .inl ?_⟩
    cases hr
    exact ⟨rfl, hb, State.staleBuffer_iff.mp hb⟩
  · rw [ht]
    refine ⟨nofun, fun r hr => .inr ?_⟩
    cases hr
    exact ⟨rfl, hp, State.staleRepeat_iff.mp hp⟩

end Sys2Proof.Machine

/-! The obligations about the environment (60_exceptions.md R513, R540 to R591): the bus grant (O54), the Watch-Dog (O55), the pins and
their filters (O56), the causes of a reset (O57) and the time-outs (O58). Each reads its part of the machine off the layer above. -/

namespace Sys2Proof.Machine

open Sys2Proof

/-! ### The bus grant (R570, R572) -/

/-- A search along a list that goes down in an order finds the member that is above every other one with the property. -/
theorem find_eq_some_of_best {α : Type} {above : α → α → Prop} {l : List α} {p : α → Bool} {x : α}
    (hasymm : ∀ a b, above a b → ¬above b a) (hl : l.Pairwise above) (hx : x ∈ l) (hp : p x = true)
    (hbest : ∀ y, p y = true → y ≠ x → above x y) : l.find? p = some x := by
  induction l with
  | nil => exact absurd hx List.not_mem_nil
  | cons y ys ih =>
    obtain ⟨hy, hys⟩ := List.pairwise_cons.mp hl
    by_cases hyx : y = x
    · rw [hyx, List.find?_cons_of_pos hp]
    · have hmem : x ∈ ys := (List.mem_cons.mp hx).resolve_left (Ne.symm hyx)
      have hpy : ¬p y = true := fun h => hasymm _ _ (hbest y h hyx) (hy x hmem)
      rw [List.find?_cons_of_neg hpy]
      exact ih hys hmem

/-- `j` has a higher priority than `i` (R572; log 25). -/
def dmaHigher (o : PriorityOrder) (j i : Fin 8) : Prop :=
  match o with
  | .lowIndexHigh => j < i
  | .highIndexHigh => i < j

theorem dmaHigher_asymm (o : PriorityOrder) (j i : Fin 8) (h : dmaHigher o j i) : ¬dmaHigher o i j := by
  cases o with
  | lowIndexHigh | highIndexHigh => exact lt_asymm h

theorem dmaPriority_pairwise (o : PriorityOrder) : (dmaPriority o).Pairwise (dmaHigher o) := by
  cases o with
  | lowIndexHigh => exact (by decide : [0, 1, 2, 3, 4, 5, 6, 7].Pairwise fun j i : Fin 8 => j < i)
  | highIndexHigh => exact (by decide : [7, 6, 5, 4, 3, 2, 1, 0].Pairwise fun j i : Fin 8 => i < j)

theorem mem_dmaPriority (o : PriorityOrder) (m : Fin 8) : m ∈ dmaPriority o := by
  cases o <;> revert m <;> decide

section
variable {s : State} {g : DmaRequest} {m : Fin 8}

/-- The MPU acknowledges the request of highest priority (R572). -/
theorem State.busMaster_mpu (hm : s.isMpu = true) (hg : g.requests.getLsbD m.val = true)
    (hbest : ∀ j : Fin 8, g.requests.getLsbD j.val = true → j ≠ m → dmaHigher s.params.dmaPriorityOrder m j) :
    s.busMaster g = some m :=
  (if_pos hm).trans (find_eq_some_of_best (dmaHigher_asymm _) (dmaPriority_pairwise _) (mem_dmaPriority _ m) hg hbest)

/-- The CPU variant has one request (R570). -/
theorem State.busMaster_cpu (hm : s.isMpu = false) (hg : g.requests.getLsbD 0 = true) : s.busMaster g = some 0 := by
  simp only [State.busMaster, hm, hg, Bool.false_eq_true, if_false, if_true]

/-- In the MPU any request finds a master. -/
theorem State.busMaster_of_request (hm : s.isMpu = true) (hg : g.requests ≠ 0) : ∃ m, s.busMaster g = some m := by
  rw [← Option.isSome_iff_exists, State.busMaster, if_pos hm, List.find?_isSome]
  by_contra hnone
  refine hg (BitVec.eq_of_getLsbD_eq fun i hi => ?_)
  have hclear : g.requests.getLsbD i = false :=
    Bool.eq_false_of_not_eq_true fun hb => hnone ⟨⟨i, hi⟩, mem_dmaPriority _ _, hb⟩
  exact hclear.trans BitVec.getLsbD_zero.symm

theorem State.busMaster_of_noRequest (hm : s.isMpu = true) (hg : g.requests = 0) : s.busMaster g = none := by
  rw [State.busMaster, if_pos hm, hg]
  exact List.find?_eq_none.mpr fun k _ => by simp

/-- A request is granted unless the limiter holds it back (R571). -/
theorem State.granted_of_busMaster (hfree : s.isMpu = true → s.dma.idle = 0 ∧ s.dma.coreTurn = false)
    (hb : s.busMaster g = some m) : s.granted (some g) = some (m, g) := by
  have hopen : ¬(s.isMpu = true ∧ (s.dma.idle ≠ 0 ∨ s.dma.coreTurn = true)) := by
    rintro ⟨hm, h⟩
    obtain ⟨hidle, hturn⟩ := hfree hm
    simp [hidle, hturn] at h
  rw [State.granted, if_neg hopen]
  exact congrArg (Option.map fun m => (m, g)) hb

end

/-! #### The boundary of a tick without events -/

section
variable {s : State} {d : Option DmaRequest}

theorem step_noEvents (h : s.script = [⟨[], d⟩]) : step s = ({ s with script := [] } : State).boundary d := by
  have hstep : step s = s.afterEvents.boundary s.tick.dma := rfl
  rw [hstep, State.afterEvents_noEvents h, State.tick, h]
  rfl

theorem step_nil (h : s.script = []) : step s = s.boundary none := by
  have hstep : step s = s.afterEvents.boundary s.tick.dma := rfl
  rw [hstep, State.afterEvents_nil h, State.tick, h]
  rfl

theorem State.boundary_sampled (hr : s.resetReq = false) (hu : s.upset = false) (hn : (s.isMpu && s.noSample) = false) :
    s.boundary d = s.sampled d := by
  simp [State.boundary, hr, hu, hn]

theorem State.sampled_granted {m : Fin 8} {g : DmaRequest} (h : s.granted d = some (m, g)) :
    s.sampled d = .next (s.dmaStep m g) := by
  rw [State.sampled, h]

/-- Without a grant the boundary is that of the state in which the last grant has ended, where no master asks. -/
theorem State.sampled_notGranted {t : State} (h : s.granted d = none) (ht : t.endGrant = s.endGrant) :
    s.sampled d = t.sampled none := by
  have hnone : t.granted none = none := by simp [State.granted]
  rw [State.sampled, h, State.sampled, hnone, ht]

end

/-- A request that nothing holds back is granted, and the grant is the whole step (R18 item 3). -/
theorem step_granted {s : State} {g : DmaRequest} {m : Fin 8} (hs : s.script = [⟨[], some g⟩]) (hr : s.resetReq = false)
    (hu : s.upset = false) (hn : (s.isMpu && s.noSample) = false)
    (hfree : s.isMpu = true → s.dma.idle = 0 ∧ s.dma.coreTurn = false)
    (hb : ({ s with script := [] } : State).busMaster g = some m) :
    step s = .next (({ s with script := [] } : State).dmaStep m g) := by
  rw [step_noEvents hs, State.boundary_sampled (s := { s with script := [] }) hr hu hn]
  exact State.sampled_granted (State.granted_of_busMaster hfree hb)

/-! #### What the master writes -/

section
variable {s : State} {a : Nat}

theorem State.busWrites_read_other {ws : List (Phys × Byte)} (h : ∀ w ∈ ws, a ≠ s.busAddress w.1) :
    (s.busWrites ws).mem.read a = s.mem.read a :=
  List.foldlRecOn (motive := fun m : Memory => m.read a = s.mem.read a) ws _ rfl
    fun m hm w hw => (Memory.read_store_other m _ a w.2 (h w hw)).trans hm

/-- An address holds what was written there last (R570). -/
theorem State.busWrites_read_last {before after : List (Phys × Byte)} {w : Phys × Byte}
    (h : ∀ x ∈ after, s.busAddress x.1 ≠ s.busAddress w.1) :
    (s.busWrites (before ++ w :: after)).mem.read (s.busAddress w.1) = w.2 := by
  let t : State := { s with mem := (s.busWrites before).mem.store (s.busAddress w.1) w.2 }
  have hlast : (s.busWrites (before ++ w :: after)).mem = (t.busWrites after).mem := by
    simp only [State.busWrites, List.foldl_append, List.foldl_cons]
    rfl
  rw [hlast, State.busWrites_read_other (s := t) (fun x hx => (h x hx).symm)]
  exact Memory.read_store_same _ _ _

end

/-! #### The step of a grant -/

/-- The state in which the clocks of a grant pass in the MPU: the writes are done, the master has its DUS bit and is acknowledged. -/
def State.granting (s : State) (m : Fin 8) (g : DmaRequest) : State :=
  { s.busWrites g.writes[m] with
    dma := { s.dma with dus := BitVec.twoPow 8 m.val }
    trace := .dmaAckBus (BitVec.twoPow 8 m.val) :: .dmaAck :: s.trace }

theorem State.dmaStep_mpu {s : State} (hm : s.isMpu = true) (m : Fin 8) (g : DmaRequest) :
    s.dmaStep m g = (s.granting m g).passTime (s.grantClocks g.clocks) := if_pos hm

theorem State.dmaStep_cpu {s : State} (hm : s.isMpu = false) (m : Fin 8) (g : DmaRequest) :
    s.dmaStep m g = (s.busWrites g.writes[m]).emit .dmaAck := if_neg (by simp [hm])

/-- A grant leaves what the timers do not move and what the master does not write (R570). -/
theorem State.dmaStep_onlyTime (s : State) (m : Fin 8) (g : DmaRequest) : (s.busWrites g.writes[m]).OnlyTime (s.dmaStep m g) := by
  cases hm : s.isMpu with
  | false =>
    rw [State.dmaStep_cpu hm]
    rfl
  | true =>
    rw [State.dmaStep_mpu hm]
    exact State.OnlyTime.trans (t := s.granting m g) rfl ((s.granting m g).passTime_onlyTime _)

theorem dusBit_ne_zero (m : Fin 8) : BitVec.twoPow 8 m.val ≠ 0 := by
  revert m
  decide

/-- Time leaves the DUS bit of a grant, or ends the grant. -/
theorem State.passTime_dus {s : State} (hm : s.isMpu = true) (n : Nat) :
    (s.passTime n).dma.dus = s.dma.dus ∨ (s.passTime n).dma.dus = 0 := by
  rw [State.passTime_mpu hm, State.resetBusTime_dma]
  have h := ((s.watchDogTime n).rtiTime n).limiterTime_dus n
  rwa [State.rtiTime_dma, State.watchDogTime_dma] at h

theorem State.passTime_nmiPending {s : State} (h : s.nmiPending = true) (n : Nat) : (s.passTime n).nmiPending = true := by
  unfold State.passTime
  split
  · rw [State.resetBusTime_nmiPending, State.limiterTime_nmiPending]
    exact State.rtiTime_nmiPending_true (by rw [State.watchDogTime_nmiPending, h]) n
  · exact h

/-- Settles O54: the boundary grants the bus to the master, and the step of a grant moves the timers and the written bytes alone. -/
theorem busGrantChangesOnlyMemory : Obligations.BusGrantChangesOnlyMemory := by
  intro s g m hs hr hu hfree beats hg hbest hcpu
  let u : State := { s with script := [] }
  have hbeats (j : Fin 8) : beats m j ↔ dmaHigher s.params.dmaPriorityOrder m j := by
    cases ho : s.params.dmaPriorityOrder <;> simp only [beats, ho, dmaHigher]
  have hmaster : u.busMaster g = some m := by
    cases hm : s.isMpu with
    | true => exact State.busMaster_mpu (s := u) hm hg fun j hj hne => (hbeats j).mp (hbest hm j hj hne)
    | false =>
      obtain rfl := hcpu hm
      exact State.busMaster_cpu (s := u) hm hg
  have hsampled : (u.isMpu && u.noSample) = false := by
    cases hm : s.isMpu with
    | true => exact (Bool.and_eq_false_imp.mpr fun _ => (hfree hm).1)
    | false => exact (congrArg (· && s.noSample) hm).trans (Bool.false_and _)
  have hstep : step s = .next (u.dmaStep m g) := step_granted hs hr hu hsampled (fun hm => (hfree hm).2) hmaster
  have honly := u.dmaStep_onlyTime m g
  have hmem : (u.dmaStep m g).mem = (u.busWrites g.writes[m]).mem := by rw [honly]
  have hnmi : s.nmiPending = true → (u.dmaStep m g).nmiPending = true := by
    intro h
    cases hm : u.isMpu with
    | false =>
      rw [State.dmaStep_cpu hm]
      exact h
    | true =>
      rw [State.dmaStep_mpu hm]
      exact State.passTime_nmiPending (s := u.granting m g) h _
  have hack : Signal.dmaAck ∈ (u.dmaStep m g).trace := by
    cases hm : u.isMpu with
    | false =>
      rw [State.dmaStep_cpu hm]
      exact List.mem_cons_self
    | true =>
      rw [State.dmaStep_mpu hm]
      exact ((u.granting m g).passTime_shows _).mem (List.mem_cons_of_mem _ List.mem_cons_self)
  have hbus (hm : s.isMpu = true) : Signal.dmaAckBus (BitVec.twoPow 8 m.val) ∈ (u.dmaStep m g).trace ∧
      ((u.dmaStep m g).dma.dus = BitVec.twoPow 8 m.val ∨ (u.dmaStep m g).dma.dus = 0) := by
    rw [State.dmaStep_mpu (s := u) hm]
    exact ⟨((u.granting m g).passTime_shows _).mem List.mem_cons_self, State.passTime_dus (s := u.granting m g) hm _⟩
  refine ⟨_, hstep, ?_⟩
  rw [hmem]
  refine ⟨?_, ?_, ?_, ?_, ?_, ?_, ?_, ?_, ?_, ?_, ?_, ?_, ?_, ?_, ?_, hnmi, hack, hbus,
    fun a ha => State.busWrites_read_other (s := u) ha, ?last⟩
  case last =>
    intro before w after hw hafter
    rw [hw]
    exact State.busWrites_read_last (s := u) hafter
  all_goals
    rw [honly]
    rfl

/-! ### The Watch-Dog (R445, R446, R576 to R578) -/

section
variable {s : State}

theorem exec_wdarm (hm : s.isMpu = true) :
    exec .wdarm s = .next { s with wdt := { s.wdt with arm := if s.wdt.arm = 0 then 256 else s.wdt.arm } } := by
  have h : exec .wdarm s = if s.wdt.arm = 0 then .next { s with wdt := { s.wdt with arm := armClocks } } else .next s := if_pos hm
  rw [h]
  split
  · rfl
  · rfl

theorem exec_wdres (hm : s.isMpu = true) :
    exec .wdres s = .next (if s.wdt.arm = 0 then s else { s with wdt := ⟨true, 0, s.pins.wdtLim, s.wdt.arm⟩ }) :=
  (if_pos hm).trans (apply_ite Host.Outcome.next _ _ _).symm

end

/-- Settles O55: a Watch-Dog that reaches its period requests the reset, which the boundary of the same step takes; one that does not only
counts, and the timers after it leave its part alone. -/
theorem watchDogMustBeServed : Obligations.WatchDogMustBeServed := by
  intro s hm
  refine ⟨exec_wdarm hm, exec_wdres hm, ?_⟩
  intro n hs he period u
  let v : State := { s with script := [] }
  have hu : u = (((v.watchDogTime n).rtiTime n).limiterTime n).resetBusTime n := State.afterEvents_clocks hm hs
  have hshows : (v.watchDogTime n).Shows u [.rtiPulse, .drqTimeout] := by
    rw [hu]
    exact ((State.rtiTime_shows _ n).trans (State.limiterTime_shows _ n)).trans (.of_eq rfl (xs := []))
  have hcount : u.trace.count .wdtTimeout = (v.watchDogTime n).trace.count .wdtTimeout := hshows.count (by decide)
  have hwdt : u.wdt = (v.watchDogTime n).wdt := by simp [hu]
  have hrst : u.sys.rstWdt = (v.watchDogTime n).sys.rstWdt := by simp [hu]
  refine ⟨fun hlt hle => ?reached, fun h => ?counts⟩
  case reached =>
    have hreach := State.watchDogTime_reached (s := v) (n := n) ⟨he, hlt, hle⟩
    have hreq : u.resetReq = true := by
      rw [hu]
      exact State.resetBusTime_resetReq (by simp [hreach]) n
    have hmpu : u.isMpu = true := s.afterEvents_isMpu.trans hm
    have htime : v.OnlyTime u := by
      rw [hu, ← State.passTime_mpu (s := v) hm]
      exact v.passTime_onlyTime n
    have hmain : u.main = s.main := by rw [htime]
    have hmem : u.mem = s.mem := by rw [htime]
    refine ⟨_, step_reset hreq, ?_⟩
    obtain ⟨-, -, -, hoff⟩ := State.userReset_mpu hmpu
    have hstatus : u.sys.rstWdt = true := by rw [hrst, hreach]
    have hpulse : u.trace.count .wdtTimeout = s.trace.count .wdtTimeout + 1 := by
      rw [hcount, hreach]
      exact List.count_cons_self
    rw [State.userReset_frame]
    exact ⟨rfl, rfl, hstatus, hpulse, congrArg WatchDog.enabled hoff, rfl, hmain, hmem⟩
  case counts =>
    have hkeep := State.watchDogTime_counts (s := v) (n := n) fun hreach => by
      obtain ⟨-, hlt, hle⟩ := hreach
      exact h.elim (Nat.not_le_of_lt hlt) (Nat.not_lt_of_le hle)
    refine ⟨?_, by rw [hrst, hkeep], by rw [hcount, hkeep], fun h1 h0 => ?rest⟩
    · simp [hwdt, hkeep, v, he]
    case rest =>
      obtain ⟨hreq, hsys⟩ := State.resetBusTime_rest (s := ((v.watchDogTime n).rtiTime n).limiterTime n)
        (by simpa using h1) (by simpa using h0) n
      rw [hu, hreq, hsys]
      refine ⟨by rw [State.limiterTime_resetReq, State.rtiTime_resetReq, hkeep], fun hd => ?_⟩
      rw [State.limiterTime_sys_of_idle (by simpa using hd), State.rtiTime_sys, hkeep]

/-! ### The pins and their filters (R540, R541, R581, R591) -/

/-- One bit of the request latches after new pin levels (R540, R541, UD10). -/
theorem latchNext_getLsbD (latch oldBus newBus oldEn newEn open16 : BitVec 16) {k : Nat} (hk : k < 16) :
    (latchNext latch oldBus newBus oldEn newEn open16).getLsbD k =
      ((latch.getLsbD k || (!oldBus.getLsbD k && newBus.getLsbD k)) && oldEn.getLsbD k && newEn.getLsbD k ||
        open16.getLsbD k && newEn.getLsbD k && !oldEn.getLsbD k && (oldBus.getLsbD k || newBus.getLsbD k)) := by
  simp only [latchNext, BitVec.getLsbD_or, BitVec.getLsbD_and, BitVec.getLsbD_not, hk, decide_true, Bool.true_and]
  rw [Bool.and_comm (newBus.getLsbD k)]

theorem RtiGen.repin_eq (g : RtiGen) (oldClock newClock : Bool) (oldDivisor newDivisor : Nat) :
    g.repin oldClock newClock oldDivisor newDivisor = { g with
      held := if newClock = oldClock then g.held else 0
      follows := g.follows && decide (newDivisor = 1 ∨ (2 ≤ newDivisor ∧ 2 ≤ oldDivisor))
      synced := g.synced && decide (2 ≤ newDivisor) } := by
  rw [RtiGen.repin, Bool.decide_or, Bool.decide_and]
  rfl

/-- New pin levels in the MPU: the latches by `latchNext`, whatever the open bits are, and the generator and the filters start again. -/
theorem State.setPins_mpu {s : State} (hm : s.isMpu = true) (p : Pins) :
    (∃ open16, (s.setPins p).irq.latch =
      latchNext s.irq.latch s.pins.intReqBus p.intReqBus s.pins.intReqEn p.intReqEn open16) ∧
    s.setPins p = { s with
      irq := { s.irq with latch := (s.setPins p).irq.latch }
      rti := s.rti.repin s.pins.refClock p.refClock s.pins.rtiDivisor.toNat p.rtiDivisor.toNat
      resetFilter :=
        ⟨s.resetFilter.line1.repin (s.pins.resetBus.getLsbD 1) (p.resetBus.getLsbD 1),
          s.resetFilter.line0.repin (s.pins.resetBus.getLsbD 0) (p.resetBus.getLsbD 0)⟩
      pins := p
      fresh := (s.setPins p).fresh } := by
  have h : s.setPins p = _ := if_pos hm
  rw [h]
  unfold State.latchPins
  dsimp only
  split
  · exact ⟨⟨_, rfl⟩, rfl⟩
  · exact ⟨⟨_, rfl⟩, rfl⟩

/-- What O56 says of one filter after `n` clocks: what it holds, the status bit `after`, and the reset request `req`. -/
def LevelFilter.Filtered (f g : LevelFilter) (pin : Bool) (n : Nat) (before after req : Bool) : Prop :=
  let waits := g = ⟨f.level, f.held + n⟩ ∧ after = before
  let passes := g = ⟨pin, 0⟩ ∧ after = true ∧ req = true
  (pin = f.level → g = f ∧ after = before) ∧
    (pin ≠ f.level →
      (f.held + n < 10 → waits) ∧ (11 ≤ f.held + n → passes) ∧ (f.held + n = 10 → waits ∨ passes))

theorem LevelFilter.run_filtered (f : LevelFilter) (pin : Bool) (n : Nat) (ten before req : Bool)
    (hreq : f.passes pin n ten = true → req = true) :
    f.Filtered (f.run pin n ten) pin n before (before || f.passes pin n ten) req := by
  refine ⟨fun hp => ?same, fun hp => ?other⟩
  case same =>
    rw [hp, LevelFilter.run_self, LevelFilter.passes_self, Bool.or_false]
    exact ⟨rfl, rfl⟩
  case other =>
    rcases LevelFilter.run_cases n ten hp with ⟨hpass, hrun⟩ | ⟨hwait, hshort, hrun⟩
    · rw [hrun, hpass, Bool.or_true, hreq hpass]
      refine ⟨fun hearly => ?_, fun _ => ⟨rfl, rfl, rfl⟩, fun _ => .inr ⟨rfl, rfl, rfl⟩⟩
      exact absurd (hpass.symm.trans (LevelFilter.passes_early pin ten hearly)) (by decide)
    · rw [hrun, hwait, Bool.or_false]
      exact ⟨fun _ => ⟨rfl, rfl⟩, fun hlate => absurd hshort (Nat.not_lt_of_le hlate), fun _ => .inl ⟨rfl, rfl⟩⟩

/-- A filter that keeps its level has passed no transition. -/
theorem LevelFilter.passes_eq_false_of_level {f : LevelFilter} {pin : Bool} {n : Nat} {ten : Bool}
    (h : (f.run pin n ten).level = f.level) : f.passes pin n ten = false := by
  by_cases hp : pin = f.level
  · rw [hp, LevelFilter.passes_self]
  · rcases LevelFilter.run_cases n ten hp with ⟨-, hrun⟩ | ⟨hwait, -, -⟩
    · rw [hrun] at h
      exact absurd h hp
    · exact hwait

/-- Settles O56: the latches bit by bit from `latchNext`, and each filter from its run in the clocks of the event. -/
theorem pinChangesReachTheirLatches : Obligations.PinChangesReachTheirLatches := by
  intro s d rest t
  let v : State := { s with script := rest }
  refine ⟨?pins, ?clocks⟩
  case pins =>
    intro p hs now line
    have ht : t = v.setPins p := State.afterEvents_event hs
    refine ⟨fun hm => ht.trans (if_neg (by simp [show v.isMpu = false from hm])), fun hm => ?_⟩
    obtain ⟨⟨open16, hlatch⟩, hframe⟩ := State.setPins_mpu (s := v) hm p
    rw [← ht] at hlatch hframe
    refine ⟨fun k hk => ?_, ?_⟩
    · rw [hlatch, latchNext_getLsbD _ _ _ _ _ _ hk]
      refine ⟨fun hoff => ?_, fun hold hnew => ?_, fun hold hb hb' => ?_⟩
      · simp [hoff]
      · simp [v, hold, hnew]
      · simp [v, hold, hb, hb']
    · rw [RtiGen.repin_eq] at hframe
      exact hframe
  case clocks =>
    intro n hs hm period line
    let w : State := ((v.watchDogTime n).rtiTime n).limiterTime n
    have ht : t = w.resetBusTime n := State.afterEvents_clocks hm hs
    let p1 := s.resetFilter.line1.passes (s.pins.resetBus.getLsbD 1) n (Config.freeBit w.fresh .resetBus1)
    let p0 := s.resetFilter.line0.passes (s.pins.resetBus.getLsbD 0) n (Config.freeBit w.fresh .resetBus0)
    have hw : w.resetFilter = s.resetFilter ∧ w.pins = s.pins ∧ w.sys.rb1Trans = s.sys.rb1Trans ∧
        w.sys.rb0Trans = s.sys.rb0Trans ∧ w.resetReq = (v.watchDogTime n).resetReq := by
      simp [w, v]
    obtain ⟨hfilter, hpins, hrb1, hrb0, hwreq⟩ := hw
    have hf1 : t.resetFilter.line1 =
        s.resetFilter.line1.run (s.pins.resetBus.getLsbD 1) n (Config.freeBit w.fresh .resetBus1) := by
      rw [ht, ← hfilter, ← hpins]
      rfl
    have hf0 : t.resetFilter.line0 =
        s.resetFilter.line0.run (s.pins.resetBus.getLsbD 0) n (Config.freeBit w.fresh .resetBus0) := by
      rw [ht, ← hfilter, ← hpins]
      rfl
    have hs1 : t.sys.rb1Trans = (s.sys.rb1Trans || p1) := by
      simp only [p1]
      rw [ht, ← hfilter, ← hpins, ← hrb1]
      rfl
    have hs0 : t.sys.rb0Trans = (s.sys.rb0Trans || p0) := by
      simp only [p0]
      rw [ht, ← hfilter, ← hpins, ← hrb0]
      rfl
    have hreq : t.resetReq = ((v.watchDogTime n).resetReq || p1 || p0) := by
      simp only [p1, p0]
      rw [ht, ← hfilter, ← hpins, ← hwreq]
      rfl
    refine ⟨?_, ?_, fun h1 h0 hdog => ?_⟩
    · rw [show line = fun pin f g before after => f.Filtered g pin n before after t.resetReq from rfl, hf1, hs1]
      exact LevelFilter.run_filtered _ _ _ _ _ _ fun (hp : p1 = true) => by rw [hreq, hp, Bool.or_true, Bool.true_or]
    · rw [show line = fun pin f g before after => f.Filtered g pin n before after t.resetReq from rfl, hf0, hs0]
      exact LevelFilter.run_filtered _ _ _ _ _ _ fun (hp : p0 = true) => by rw [hreq, hp, Bool.or_true]
    · have hp1 : p1 = false := LevelFilter.passes_eq_false_of_level (hf1 ▸ h1)
      have hp0 : p0 = false := LevelFilter.passes_eq_false_of_level (hf0 ▸ h0)
      rw [hreq, hp1, hp0, Bool.or_false, Bool.or_false, State.watchDogTime_counts (s := v) hdog]

/-! ### The causes of a reset (R513, R601) -/

section
variable {s : State}

/-- In the MPU an upset leaves free registers, its cause and its address, and requests the reset (R513; log 17). -/
theorem State.faultUpset_mpu (hm : s.isMpu = true) (la : Word) :
    s.faultUpset la = { s.freeRegisters with
      sys := { s.sys with rstFault := true, faultLa := la, faultPa := (s.translate la).extractLsb' 12 16 }
      resetReq := true
      trace := .faultDetect :: s.trace } := if_pos hm

/-- In the CPU variant it leaves the main state machine in an illegal state. -/
theorem State.faultUpset_cpu (hm : s.isMpu = false) (la : Word) :
    s.faultUpset la = { s.freeRegisters with upset := true, trace := .faultDetect :: s.trace } := if_neg (by simp [hm])

theorem State.masterReset_mpu (hm : s.isMpu = true) :
    s.masterReset = { s.freeRegisters.powerOnStatus with
      rti := RtiGen.start (rtiPeriod s.pins.rtiDefault)
      resetFilter := ResetFilter.settled s.pins.resetBus
      resetReq := true } := by
  have hfree : s.freeRegisters.isMpu = true := hm
  simp only [State.masterReset, hfree, if_true]
  rfl

/-- The master reset requests the user reset and leaves memory, the pins and the parameters (R601; log 19). -/
theorem State.masterReset_keeps (s : State) :
    s.masterReset.resetReq = true ∧ s.masterReset.mem = s.mem ∧ s.masterReset.params = s.params ∧
      s.masterReset.pins = s.pins := by
  unfold State.masterReset
  dsimp only
  split <;> exact ⟨rfl, rfl, rfl, rfl⟩

end

/-- Settles O57: each event but the upset of the CPU variant leaves a reset requested, so the step is the user reset of what it leaves. -/
theorem faultAndMasterResetLeaveTheirCause : Obligations.FaultAndMasterResetLeaveTheirCause := by
  intro s restarts
  let v : State := { s with script := [] }
  have events (e : EnvEvent) : ({ s with script := [⟨[e], none⟩] } : State).afterEvents = v.absorb e :=
    State.afterEvents_event rfl
  have restart {e : EnvEvent} {after : State → Prop}
      (hkeeps : (v.absorb e).resetReq = true ∧ (v.absorb e).mem = s.mem ∧ (v.absorb e).params = s.params ∧
        (v.absorb e).pins = s.pins)
      (hafter : after (v.absorb e).userReset) : restarts e after := by
    obtain ⟨hreq, hmem, hparams, hpins⟩ := hkeeps
    have hstep : step { s with script := [⟨[e], none⟩] } = .next (v.absorb e).userReset := by
      rw [← events e]
      exact step_reset ((congrArg State.resetReq (events e)).trans hreq)
    have hi : (v.absorb e).params.resetI = s.params.resetI := congrArg Params.resetI hparams
    have hr : (v.absorb e).params.resetR = s.params.resetR := congrArg Params.resetR hparams
    have hsp : (v.absorb e).params.resetSp = s.params.resetSp := congrArg Params.resetSp hparams
    refine ⟨_, hstep, ?_⟩
    have hframe := (v.absorb e).userReset_frame
    generalize (v.absorb e).userReset = t at *
    rw [hframe]
    exact ⟨rfl, hi, hr, hsp, rfl, rfl, rfl, rfl, rfl, rfl, rfl, rfl, hmem, hparams, hpins, hframe ▸ hafter⟩
  refine ⟨fun hm la => ?fault, ?master, fun hm hr la => ?upset⟩
  case fault =>
    have hfault : v.absorb (.faultDetect la) = _ := State.faultUpset_mpu (s := v) hm la
    refine restart ?_ ?_
    · rw [hfault]
      exact ⟨rfl, rfl, rfl, rfl⟩
    · rw [State.userReset_frame, hfault]
      exact ⟨rfl, rfl⟩
  case master =>
    refine restart (e := .clearb) v.masterReset_keeps fun hm => ?_
    have hmaster : v.absorb .clearb = _ := State.masterReset_mpu (s := v) hm
    rw [State.userReset_frame, hmaster]
    exact ⟨rfl, rfl, rfl, rfl, rfl, rfl, rfl⟩
  case upset =>
    have hfault : v.absorb (.faultDetect la) = _ := State.faultUpset_cpu (s := v) hm la
    have hstep : step { s with script := [⟨[.faultDetect la], none⟩] } = (v.absorb (.faultDetect la)).boundary none :=
      congrArg (State.boundary · none) (events _)
    have hno : ¬(v.absorb (.faultDetect la)).resetReq = true := by
      rw [hfault]
      exact Bool.not_eq_true _ ▸ hr
    have hup : (v.absorb (.faultDetect la)).upset = true := by rw [hfault]
    rw [hstep, State.boundary, if_neg hno, if_pos hup]

/-! ### Time-outs and the DMA limiter (R565, R571, R573) -/

/-- One more time-out as a number: a flag, or a count that stops at 255 (R565). -/
def timeoutNumber (mode : TimeoutMode) (v : Nat) : Nat :=
  match mode with
  | .log => 1
  | .acc => min (v + 1) 255

theorem countTimeout_toNat (mode : TimeoutMode) (v : Byte) : (countTimeout mode v).toNat = timeoutNumber mode v.toNat := by
  have hv := v.isLt
  cases mode with
  | log => rfl
  | acc =>
    simp only [countTimeout, timeoutNumber]
    split
    case isTrue h => simp [h]
    case isFalse h =>
      have hne : v.toNat ≠ 255 := fun h' => h (BitVec.eq_of_toNat_eq h')
      simp only [BitVec.toNat_add, BitVec.toNat_ofNat, BitVec.ofNat_eq_ofNat]
      omega

section
variable {s : State} {n : Nat}

/-- Clocks of a grant up to the limit end it; those left after it count towards the idle minimum (R571). -/
theorem State.limiterTime_reached (hm : s.isMpu = true) (hd : s.dma.dus ≠ 0) (h0 : s.pins.drqActLim ≠ 0)
    (h : 16 * s.pins.drqActLim.toNat ≤ s.dma.active + n) :
    s.limiterTime n = { s with
      dma := ⟨0, 0, 16 * s.pins.drqIdlLim.toNat - (n - (16 * s.pins.drqActLim.toNat - s.dma.active)), true⟩
      sys := { s.sys with drqTo := countTimeout s.params.dreqMode s.sys.drqTo }
      trace := .drqTimeout :: s.trace } := by
  have hclocks : s.grantClocks n = 16 * s.pins.drqActLim.toNat - s.dma.active := by
    rw [State.grantClocks, if_pos ⟨hm, h0⟩]
    omega
  have hlimit := State.limitGrant_reached
    (s := { s with dma := { s.dma with active := s.dma.active + (16 * s.pins.drqActLim.toNat - s.dma.active) } }) h0
    (by dsimp only; omega)
  rw [State.limiterTime, if_neg hd]
  dsimp only
  rw [hclocks, hlimit]
  rfl

/-- `t` is a state in which the grant of `s` has just ended by its limit, with so many clocks left of the idle minimum (R571). -/
def State.TimedOut (s t : State) (left : Nat) : Prop :=
  t.dma = ⟨0, 0, left, true⟩ ∧ Signal.drqTimeout ∈ t.trace ∧ t.sys.drqTo = countTimeout s.params.dreqMode s.sys.drqTo

theorem State.passTime_timedOut (hm : s.isMpu = true) (hd : s.dma.dus ≠ 0) (h0 : s.pins.drqActLim ≠ 0)
    (h : 16 * s.pins.drqActLim.toNat ≤ s.dma.active + n) :
    s.TimedOut (s.passTime n) (16 * s.pins.drqIdlLim.toNat - (n - (16 * s.pins.drqActLim.toNat - s.dma.active))) := by
  let w := (s.watchDogTime n).rtiTime n
  have hwd : w.dma = s.dma := by simp [w]
  have hwp : w.pins = s.pins := by simp [w]
  have hwm : w.params = s.params := by simp [w]
  have hwt : w.sys.drqTo = s.sys.drqTo := by simp [w]
  have hlimit := State.limiterTime_reached (s := w) (n := n) ((State.isMpu_congr hwm).trans hm) (hwd ▸ hd) (hwp ▸ h0)
    (by rw [hwd, hwp]; exact h)
  have hpass : s.passTime n = (w.limiterTime n).resetBusTime n := State.passTime_mpu hm n
  rw [hpass, hlimit, ← hwp, ← hwd]
  exact ⟨rfl, List.mem_cons_self, by rw [← hwm, ← hwt]; rfl⟩

/-- Below the limit, or without one, the clocks of a grant add to its active time. -/
theorem State.passTime_active (hm : s.isMpu = true) (hd : s.dma.dus ≠ 0)
    (h : s.pins.drqActLim = 0 ∨ s.dma.active + n < 16 * s.pins.drqActLim.toNat) :
    (s.passTime n).dma = { s.dma with active := s.dma.active + n } ∧ (s.passTime n).sys.drqTo = s.sys.drqTo := by
  let w := (s.watchDogTime n).rtiTime n
  have hwd : w.dma = s.dma := by simp [w]
  have hwp : w.pins = s.pins := by simp [w]
  have hwt : w.sys.drqTo = s.sys.drqTo := by simp [w]
  have hlimit := State.limiterTime_active (s := w) (hwd ▸ hd) (n := n) (by rw [hwd, hwp]; exact h)
  have hpass : s.passTime n = (w.limiterTime n).resetBusTime n := State.passTime_mpu hm n
  rw [hpass, hlimit, ← hwd, ← hwt]
  exact ⟨rfl, rfl⟩

/-- Without a grant the clocks run down the idle minimum. -/
theorem State.passTime_idle (hm : s.isMpu = true) (hd : s.dma.dus = 0) :
    (s.passTime n).dma = { s.dma with idle := s.dma.idle - n } ∧ (s.passTime n).sys.drqTo = s.sys.drqTo := by
  let w := (s.watchDogTime n).rtiTime n
  have hwd : w.dma = s.dma := by simp [w]
  have hwt : w.sys.drqTo = s.sys.drqTo := by simp [w]
  have hlimit := State.limiterTime_idle (s := w) (hwd ▸ hd) n
  have hpass : s.passTime n = (w.limiterTime n).resetBusTime n := State.passTime_mpu hm n
  rw [hpass, hlimit, ← hwd, ← hwt]
  exact ⟨rfl, rfl⟩

/-- A Wait request at its limit is counted where it is honoured (R573). -/
theorem State.waitExpires_eq (hm : s.isMpu = true) (k : WaitKind) :
    s.waitExpires k =
      if s.pins.waitLimit k ≠ 0 ∧ s.runState = .run ∧ s.dma.dus = 0 then
        { s with
          sys := { s.sys with waitTo := countTimeout s.params.waitMode s.sys.waitTo }
          trace := .waitTimeout :: s.trace }
      else s := by
  simp only [State.waitExpires, State.waitHonoured, hm, true_and, Bool.and_eq_true, beq_iff_eq]
  rfl

end

section
variable {s : State}

/-- Where the limiter holds requests back, no master is granted the bus (R571). -/
theorem State.granted_heldBack (hm : s.isMpu = true) (h : s.dma.idle ≠ 0 ∨ s.dma.coreTurn = true) (d : Option DmaRequest) :
    s.granted d = none := if_pos ⟨hm, h⟩

theorem State.granted_noRequest (hm : s.isMpu = true) {g : DmaRequest} (hg : g.requests = 0) : s.granted (some g) = none := by
  unfold State.granted
  split
  · rfl
  · exact congrArg (Option.map fun m => (m, g)) (State.busMaster_of_noRequest hm hg)

theorem State.granted_nothing (s : State) : s.granted none = none := by
  simp [State.granted]

theorem State.endGrant_idle (h : s.dma.dus = 0) : s.endGrant = { s with dma := { s.dma with coreTurn := false } } :=
  if_neg (by simp [h])

theorem State.endGrant_ends (hm : s.isMpu = true) (h : s.dma.dus ≠ 0) :
    s.endGrant = { s with dma := ⟨0, 0, 16 * s.pins.drqIdlLim.toNat, false⟩ } := if_pos ⟨hm, h⟩

/-- A boundary without a grant, in terms of the state in which the last grant has ended. -/
theorem State.boundary_notGranted {t : State} {d : Option DmaRequest} (hr : s.resetReq = false) (hu : s.upset = false)
    (hn : s.noSample = false) (hg : s.granted d = none) (ht : s.endGrant = t) (htt : t.endGrant = t)
    (hrt : t.resetReq = s.resetReq) (hut : t.upset = s.upset) (hnt : t.noSample = s.noSample) (hs : t.script = []) :
    s.boundary d = step t := by
  rw [step_nil hs, State.boundary_sampled hr hu (by rw [hn, Bool.and_false]),
    State.boundary_sampled (hrt.trans hr) (hut.trans hu) (by rw [hnt, hn, Bool.and_false])]
  exact State.sampled_notGranted hg (htt.trans ht.symm)

end

/-- Settles O58: the time-out bytes by `countTimeout`, the clocks by the limiter's three cases, and a boundary without a grant is one of the
state in which the last grant has ended. -/
theorem timeOutsAreCounted : Obligations.TimeOutsAreCounted := by
  intro s hm counts limit idle timedOut
  let v : State := { s with script := [] }
  have hcounts (mode : TimeoutMode) (b : Byte) : (countTimeout mode b).toNat = counts mode b := by
    rw [countTimeout_toNat]
    cases mode <;> rfl
  have htimedOut {x t : State} {left : Nat} (hx : x.params.dreqMode = s.params.dreqMode) (hy : x.sys.drqTo = s.sys.drqTo)
      (h : x.TimedOut t left) : timedOut t left := by
    obtain ⟨hdma, htrace, hto⟩ := h
    exact ⟨hdma, htrace, by rw [hto, hx, hy, hcounts]⟩
  have hlimit {k : Nat} (h : ¬(limit ≠ 0 ∧ limit ≤ k)) : s.pins.drqActLim = 0 ∨ k < limit := by
    by_cases h0 : s.pins.drqActLim = 0
    · exact .inl h0
    · have : s.pins.drqActLim.toNat ≠ 0 := fun h' => h0 (BitVec.eq_of_toNat_eq h')
      omega
  have hlim0 (h : limit ≠ 0) : s.pins.drqActLim ≠ 0 := fun h0 => h (by simp [limit, h0])
  refine ⟨?wait, ?clocks, fun hr hu hn => ⟨fun g hs => ⟨fun hidle hturn hg => ?grant, fun hheld hd => ?held⟩,
    fun hs hd => ?ended⟩⟩
  case wait =>
    intro k d rest hs t wait
    have ht : t = ({ s with script := rest } : State).waitExpires k := State.afterEvents_event hs
    rw [State.waitExpires_eq (s := { s with script := rest }) hm] at ht
    have hwait : s.pins.waitLimit k = wait := by cases k <;> rfl
    split
    case isTrue h =>
      rw [ht, if_pos (hwait.symm ▸ h)]
      exact ⟨hcounts _ _, rfl⟩
    case isFalse h => rw [ht, if_neg (hwait.symm ▸ h)]
  case clocks =>
    intro n d rest hs t
    let x : State := { s with script := rest }
    have ht : t = x.passTime n := State.afterEvents_event hs
    rw [ht]
    split
    case isTrue hd => exact State.passTime_idle (s := x) hm hd
    case isFalse hd =>
      split
      case isTrue h => exact htimedOut rfl rfl (State.passTime_timedOut (s := x) hm hd (hlim0 h.1) h.2)
      case isFalse h => exact State.passTime_active (s := x) hm hd (hlimit h)
  case grant =>
    obtain ⟨m, hb⟩ := State.busMaster_of_request (s := v) hm hg
    let x := v.granting m g
    have hdus : x.dma.dus ≠ 0 := dusBit_ne_zero m
    have hstep : step s = .next (x.passTime (v.grantClocks g.clocks)) := by
      rw [step_granted hs hr hu (by rw [hn, Bool.and_false]) (fun _ => ⟨hidle, hturn⟩) hb, State.dmaStep_mpu (s := v) hm]
    refine ⟨_, hstep, ?_⟩
    split
    case isTrue h =>
      obtain ⟨h0, hle⟩ := h
      have hclocks : v.grantClocks g.clocks = limit - s.dma.active := by
        rw [State.grantClocks, if_pos ⟨hm, hlim0 h0⟩]
        change min g.clocks (limit - s.dma.active) = limit - s.dma.active
        omega
      have hto := State.passTime_timedOut (s := x) (n := v.grantClocks g.clocks) hm hdus (hlim0 h0) (by
        change limit ≤ s.dma.active + v.grantClocks g.clocks
        omega)
      have hleft : idle - (v.grantClocks g.clocks - (limit - s.dma.active)) = idle := by omega
      exact hleft ▸ htimedOut rfl rfl hto
    case isFalse h =>
      have hclocks : v.grantClocks g.clocks = g.clocks := State.grantClocks_below (hlimit h)
      obtain ⟨hdma, hto⟩ := State.passTime_active (s := x) (n := g.clocks) hm hdus (hlimit h)
      rw [hclocks, hdma]
      exact ⟨rfl, hdus, hto⟩
  case held =>
    rw [step_noEvents hs]
    exact State.boundary_notGranted (s := v) hr hu hn (State.granted_heldBack (s := v) hm hheld _)
      (State.endGrant_idle (s := v) hd)
      (State.endGrant_idle (s := { v with dma := { v.dma with coreTurn := false } }) hd) rfl rfl rfl rfl
  case ended =>
    have ends {d : Option DmaRequest} (hg : v.granted d = none) :
        v.boundary d = step { v with dma := ⟨0, 0, idle, false⟩ } :=
      State.boundary_notGranted hr hu hn hg (State.endGrant_ends (s := v) hm hd)
        (State.endGrant_idle (s := { v with dma := ⟨0, 0, idle, false⟩ }) rfl) rfl rfl rfl rfl
    rcases hs with hs | ⟨g, hs, hg⟩
    · have hv : s = v := congrArg (fun x => { s with script := x }) hs
      rw [step_nil hs]
      exact (congrArg (State.boundary · none) hv).trans (ends v.granted_nothing)
    · rw [step_noEvents hs]
      exact ends (State.granted_noRequest (s := v) hm hg)

end Sys2Proof.Machine

/-! CPU control (47_cpu_control.md, O45) and the MPU instructions that move blocks of sixteen bytes (48_mpu.md): LDM, LDMS and SWAP (O46)
and LDM (HL),SYS (O47). A block store is the list of its sixteen byte writes, made one after another, and one write of HL at the end. -/

namespace Sys2Proof.Machine

open Sys2Proof

/-- Settles O45: each of these instructions is the one write of its rule. -/
theorem cpuControlSetsWhatItNames : Obligations.CpuControlSetsWhatItNames := by
  intro s
  exact ⟨rfl, rfl, rfl, rfl, rfl, rfl, rfl, rfl⟩

/-! ### A block of bytes stored at HL (R441, D38) -/

theorem low_toNat (w : Word) : (low w).toNat = w.toNat % 256 := BitVec.extractLsb'_toNat 0 8 w

theorem high_toNat (w : Word) : (high w).toNat = w.toNat / 256 := by
  have hw := w.isLt
  rw [high, BitVec.extractLsb'_toNat, Nat.shiftRight_eq_div_pow]
  omega

/-- The address one further on, counted from the next one. -/
theorem word_add_succ (la : Word) (k : Nat) : la + BitVec.ofNat 16 (k + 1) = la + 1 + BitVec.ofNat 16 k := by
  rw [Nat.add_comm k 1, BitVec.ofNat_add, ← BitVec.add_assoc]
  rfl

/-- The byte writes of a block from an address on. -/
def blockWrites (la : Word) (vs : List Byte) : List (Word × Byte) := vs.mapIdx fun k v => (la + BitVec.ofNat 16 k, v)

theorem blockWrites_cons (la : Word) (v : Byte) (vs : List Byte) :
    blockWrites la (v :: vs) = (la, v) :: blockWrites (la + 1) vs := by
  have htail : (fun k w => (la + BitVec.ofNat 16 (k + 1), w)) = fun k (w : Byte) => (la + 1 + BitVec.ofNat 16 k, w) := by
    funext k w
    rw [word_add_succ]
  rw [blockWrites, List.mapIdx_cons, htail, BitVec.add_zero]
  rfl

@[simp] theorem blockWrites_length (la : Word) (vs : List Byte) : (blockWrites la vs).length = vs.length :=
  List.length_mapIdx

@[simp] theorem blockWrites_getElem (la : Word) (vs : List Byte) (k : Nat) (h : k < (blockWrites la vs).length) :
    (blockWrites la vs)[k] = (la + BitVec.ofNat 16 k, vs[k]'(blockWrites_length la vs ▸ h)) :=
  List.getElem_mapIdx

/-- A block no longer than a page goes to distinct physical addresses (R95). -/
theorem blockWrites_pairwise (s : State) (la : Word) {vs : List Byte} (h : vs.length ≤ 4096) :
    (blockWrites la vs).Pairwise fun x y => s.phys x.1 ≠ s.phys y.1 := by
  rw [List.pairwise_iff_getElem]
  intro i j hi hj hij
  rw [blockWrites_length] at hi hj
  rw [blockWrites_getElem, blockWrites_getElem]
  exact s.phys_add_ne la i j (by omega) (by omega) (by omega)

section
variable (s : State)

theorem State.setHl_setHl (v w : Word) : (s.setHl v).setHl w = s.setHl w := rfl

/-- A write of HL does not matter to a memory write at an address already formed. -/
theorem State.setHl_writeByte (w : Word) (stack : Bool) (la : Word) (v : Byte) :
    (s.setHl w).writeByte stack la v = (s.writeByte stack la v).setHl w := by
  unfold State.writeByte
  rw [apply_ite (State.setHl · w)]
  cases stack <;> rfl

theorem State.setHl_storeAll (w : Word) (stack : Bool) (ws : List (Word × Byte)) :
    (s.setHl w).storeAll stack ws = (s.storeAll stack ws).setHl w := by
  induction ws using List.reverseRecOn with
  | nil => rfl
  | append_singleton ws x ih => rw [State.storeAll_snoc, State.storeAll_snoc, ih, State.setHl_writeByte]

theorem State.storeAll_cons (stack : Bool) (w : Word × Byte) (ws : List (Word × Byte)) :
    s.storeAll stack (w :: ws) = (s.writeByte stack w.1 w.2).storeAll stack ws := rfl

theorem State.writeByte_inhibited (stack : Bool) (la lb : Word) (v : Byte) :
    (s.writeByte stack la v).inhibited lb = s.inhibited lb :=
  State.onlyStores_inhibited (s.writeByte_onlyStores stack la v) lb

end

/-- The block instructions store their bytes and move HL past them (R441). -/
theorem State.storeBlock_eq (s : State) (vs : List Byte) :
    s.storeBlock vs = (s.storeAll false (blockWrites s.hl vs)).setHl (s.hl + BitVec.ofNat 16 vs.length) := by
  induction vs generalizing s with
  | nil =>
    rw [List.length_nil, BitVec.add_zero]
    simp [State.storeBlock, blockWrites, State.storeAll, State.setHl, State.hl]
  | cons v vs ih =>
    have hlen : s.hl + 1 + BitVec.ofNat 16 vs.length = s.hl + BitVec.ofNat 16 (vs.length + 1) := (word_add_succ _ _).symm
    rw [State.storeBlock, ih, State.setHl_hl, State.setHl_storeAll, State.setHl_setHl, hlen, blockWrites_cons,
      State.storeAll_cons, List.length_cons]

/-- The bytes LDM (HL),SYS writes from an address on, of which those at offsets 1 to 5 are free after an inhibited write (R447, UD7). -/
def statusBytes (inhibits : Word → Bool) (la : Word) (draw offset : Nat) (inhibited : Bool) (vs : List Byte) : List Byte :=
  vs.mapIdx fun k v =>
    statusByte draw (offset + k) (inhibited || (List.range k).any fun j => inhibits (la + BitVec.ofNat 16 j)) v

theorem statusBytes_cons (inhibits : Word → Bool) (la : Word) (draw offset : Nat) (inhibited : Bool) (v : Byte)
    (vs : List Byte) :
    statusBytes inhibits la draw offset inhibited (v :: vs) =
      statusByte draw offset inhibited v :: statusBytes inhibits (la + 1) draw (offset + 1) (inhibited || inhibits la) vs := by
  have hany (k : Nat) : ((List.range (k + 1)).any fun j => inhibits (la + BitVec.ofNat 16 j)) =
      (inhibits la || (List.range k).any fun j => inhibits (la + 1 + BitVec.ofNat 16 j)) := by
    rw [List.range_succ_eq_map, List.any_cons, List.any_map, BitVec.add_zero]
    congr 2
    funext j
    exact congrArg inhibits (word_add_succ la j)
  have htail : (fun k w => statusByte draw (offset + (k + 1))
        (inhibited || (List.range (k + 1)).any fun j => inhibits (la + BitVec.ofNat 16 j)) w) =
      fun k w => statusByte draw (offset + 1 + k)
        (inhibited || inhibits la || (List.range k).any fun j => inhibits (la + 1 + BitVec.ofNat 16 j)) w := by
    funext k w
    rw [hany, Bool.or_assoc, Nat.add_assoc, Nat.add_comm 1 k]
  rw [statusBytes, List.mapIdx_cons, htail, List.range_zero, List.any_nil, Bool.or_false]
  rfl

theorem State.storeStatus_eq (s : State) (draw offset : Nat) (inhibited : Bool) (vs : List Byte) :
    s.storeStatus draw offset inhibited vs =
      (s.storeAll false (blockWrites s.hl (statusBytes s.inhibited s.hl draw offset inhibited vs))).setHl
        (s.hl + BitVec.ofNat 16 vs.length) := by
  induction vs generalizing s offset inhibited with
  | nil =>
    rw [List.length_nil, BitVec.add_zero]
    simp [State.storeStatus, statusBytes, blockWrites, State.storeAll, State.setHl, State.hl]
  | cons v vs ih =>
    have hlen : s.hl + 1 + BitVec.ofNat 16 vs.length = s.hl + BitVec.ofNat 16 (vs.length + 1) := (word_add_succ _ _).symm
    have hinhibits (w : Word) (b : Byte) : ((s.writeByte false s.hl b).setHl w).inhibited = s.inhibited :=
      funext (s.writeByte_inhibited false s.hl · b)
    rw [State.storeStatus, ih, hinhibits, State.setHl_hl, State.setHl_storeAll, State.setHl_setHl, hlen, statusBytes_cons,
      blockWrites_cons, State.storeAll_cons, List.length_cons]
    rfl

/-! ### The sets of translation registers (R441 to R444) -/

section
variable {s : State}

/-- A register with its low byte replaced (R442). -/
theorem State.loadLow_toNat (s : State) (k : Fin 16) :
    s.loadLow[k].toNat = s.mmu.buffer[k].toNat / 256 * 256 + (s.readByte (s.hl + BitVec.ofNat 16 k.val)).toNat := by
  have h : s.loadLow[k] = high s.mmu.buffer[k] ++ s.blockByte k := Vector.getElem_ofFn k.isLt
  rw [h, toNat_append_add, high_toNat]
  rfl

/-- A register with its high byte replaced (R442). -/
theorem State.loadHigh_toNat (s : State) (k : Fin 16) :
    s.loadHigh[k].toNat = (s.readByte (s.hl + BitVec.ofNat 16 k.val)).toNat * 256 + s.mmu.buffer[k].toNat % 256 := by
  have h : s.loadHigh[k] = s.blockByte k ++ low s.mmu.buffer[k] := Vector.getElem_ofFn k.isLt
  rw [h, toNat_append_add, low_toNat]
  rfl

/-- The writes of a block made from the sixteen registers. -/
theorem blockWrites_registers (la : Word) (half : Word → Byte) (v : Vector Word 16) :
    blockWrites la (v.toList.map half) =
      (List.finRange 16).map fun k => (la + BitVec.ofNat 16 k.val, half v[k]) := by
  refine List.ext_getElem (by simp) fun i _ _ => ?_
  simp

/-- What a block store leaves, in the terms of Safety, with whatever is set after it that neither a store nor HL touches. -/
theorem State.storeAll_setHl_onlyStores (s : State) (ws : List (Word × Byte)) (w : Word) :
    ({ s with main := { s.main with h := high w, l := low w } } : State).onlyStores ((s.storeAll false ws).setHl w) :=
  (s.storeAll_onlyStores false ws).setHl w

end

theorem State.onlyStores.withNoSample {s t : State} (h : s.onlyStores t) :
    ({ s with noSample := true } : State).onlyStores { t with noSample := true } := by
  have hset := congrArg (fun u : State => ({ u with noSample := true } : State)) h
  exact hset

/-- Settles O46: the loads build the registers byte by byte, and the two stores are block stores of sixteen distinct bytes. -/
theorem mmuBlockTransfers : Obligations.MmuBlockTransfers := by
  intro s hm m lows highs loads
  have load {i : Instr} {after : Mmu → Prop} {u : Mmu} (hi : exec i s = .next (({ s with mmu := u } : State).endBlock s.hl))
      (hu : after u) : loads i after := ⟨_, hi, hu, high_append_low (s.hl + 16), rfl⟩
  have low := load (i := .ldmMmuHl) (u := ⟨s.mmu.active, s.loadLow⟩)
    (after := fun u => u.active = s.mmu.active ∧ lows u.buffer) (if_pos hm) ⟨rfl, s.loadLow_toNat⟩
  have high := load (i := .ldmMmuhHl) (u := ⟨s.mmu.active, s.loadHigh⟩)
    (after := fun u => u.active = s.mmu.active ∧ highs u.buffer) (if_pos hm) ⟨rfl, s.loadHigh_toNat⟩
  have both := load (i := .ldmsMmuHl) (u := ⟨s.loadLow, s.mmu.active⟩)
    (after := fun u => lows u.active ∧ u.buffer = s.mmu.active) (if_pos hm) ⟨s.loadLow_toNat, rfl⟩
  refine ⟨low, high, both, if_pos hm, ?_⟩
  intro stores
  have store {i : Instr} {half : Word → Byte}
      (hi : exec i s = .next { s.storeBlock (s.mmu.buffer.toList.map half) with noSample := true }) : stores i half := by
    have hlen : (s.mmu.buffer.toList.map half).length = 16 := by simp
    have hws := blockWrites_registers s.hl half s.mmu.buffer
    have hwrites := s.storeAll_writes false _ (blockWrites_pairwise s s.hl (vs := s.mmu.buffer.toList.map half) (by omega))
    have honly := s.storeAll_setHl_onlyStores (blockWrites s.hl (s.mmu.buffer.toList.map half)) (s.hl + 16)
    rw [State.storeBlock_eq, hlen] at hi
    rw [hws] at hi hwrites honly
    generalize s.storeAll false _ = u at hi hwrites honly
    exact ⟨_, hi, high_append_low (s.hl + 16), State.writes_congr hwrites rfl rfl rfl rfl rfl, honly.withNoSample⟩
  exact ⟨store (if_pos hm), store (if_pos hm)⟩

/-! ### The System Status Block (R560 to R567) -/

section
variable (s : State)

theorem toNat_append_ofBool {n : Nat} (x : BitVec n) (b : Bool) : (x ++ BitVec.ofBool b).toNat = 2 * x.toNat + b.toNat := by
  rw [toNat_append_add, BitVec.toNat_ofBool, Nat.mul_comm, Nat.pow_one]

/-- The Reset Status byte (R561). -/
theorem State.resetStatus_toNat :
    s.resetStatus.toNat = 128 * s.sys.rstFatal.toNat + 64 * s.sys.rstFault.toNat + 32 * s.sys.rstWdt.toNat +
      16 * s.sys.rstPwron.toNat + 8 * (s.pins.resetBus.getLsbD 1).toNat + 4 * s.sys.rb1Trans.toNat +
      2 * (s.pins.resetBus.getLsbD 0).toNat + s.sys.rb0Trans.toNat := by
  simp only [State.resetStatus, toNat_append_ofBool, BitVec.toNat_ofBool]
  omega

/-- The Trap Status byte (R562). -/
theorem State.trapStatus_toNat :
    s.trapStatus.toNat = 8 * s.sys.trapWp.toNat + 4 * s.sys.trapXp.toNat + 2 * s.sys.trapI3.toNat + s.sys.trapI2.toNat := by
  simp only [State.trapStatus, toNat_append_ofBool, BitVec.toNat_ofNat]
  omega

theorem RtiGen.lost_eq (g : RtiGen) : g.lost = decide (g.edges = 2 ∧ 2 * g.period < g.since) := by
  rw [Bool.decide_and]
  rfl

theorem RtiGen.continuous_eq (g : RtiGen) : g.continuous = (decide (g.edges = 2) && !g.lost) := rfl

theorem RtiGen.freeRuns_eq (g : RtiGen) (d : Nat) :
    g.freeRuns d = !(g.follows && (decide (d = 1) || (decide (2 ≤ d) && !g.lost))) := by
  have hpasses : g.passes d = (g.follows && decide (d = 1)) := rfl
  rw [RtiGen.freeRuns, hpasses, RtiGen.divides]
  cases g.follows <;> simp

theorem bne_zero_eq_decide {n : Nat} (x : BitVec n) : (x != 0) = decide (x.toNat ≠ 0) := by
  rw [Bool.eq_iff_iff, bne_iff_ne, decide_eq_true_iff, Ne, BitVec.toNat_eq]
  simp

/-- Bit 1 of the RTI byte: `rti_default` is below its minimum, and free at 0 (R566; log 41). -/
def State.rtiShort : Bool :=
  if s.pins.rtiDefault = 0 then Config.freeBit s.fresh .rtiDefaultZero else decide (s.pins.rtiDefault.toNat < 1024)

/-- The RTI Generator Status byte (R566; logs 40, 41). -/
theorem State.rtiStatus_toNat :
    s.rtiStatus.toNat = 32 * s.pins.refClock.toNat + 16 * s.rti.tooShort.toNat + 8 * s.rti.continuous.toNat +
      4 * s.rti.synchronised.toNat + 2 * s.rtiShort.toNat +
      (s.pins.rtiDefault != 0 && s.rti.freeRuns s.pins.rtiDivisor.toNat).toNat := by
  have h : s.rtiStatus = 0#2 ++ BitVec.ofBool s.pins.refClock ++ BitVec.ofBool s.rti.tooShort ++
      BitVec.ofBool s.rti.continuous ++ BitVec.ofBool s.rti.synchronised ++ BitVec.ofBool s.rtiShort ++
      BitVec.ofBool (s.pins.rtiDefault != 0 && s.rti.freeRuns s.pins.rtiDivisor.toNat) := rfl
  rw [h]
  simp only [toNat_append_ofBool, BitVec.toNat_ofNat]
  omega

end

/-! ### What the sixteen writes protect -/

section
variable {s t : State} {stack : Bool} {ws : List (Word × Byte)}

/-- Without an inhibited write no latch changes. -/
theorem State.protection.of_allStored (h : s.protection t stack ws) (hws : ∀ w ∈ ws, s.inhibited w.1 = false) :
    t.sys = s.sys ∧ t.wpPending = s.wpPending := by
  have hnone : ws.filter (fun w => s.inhibited w.1) = [] := List.filter_eq_nil_iff.mpr fun w hw => by simp [hws w hw]
  rw [State.protection, hnone] at h
  obtain ⟨hsys, hwp, -, -⟩ := h
  exact ⟨hsys, hwp⟩

/-- The last inhibited write is the one that is latched (R503, R511). -/
theorem State.protection.of_lastInhibited {before after : List (Word × Byte)} {w : Word × Byte}
    (h : s.protection t stack (before ++ w :: after)) (hw : s.inhibited w.1 = true)
    (hafter : ∀ x ∈ after, s.inhibited x.1 = false) :
    t.wpPending = true ∧ t.sys.trapLa = w.1 ∧ t.sys.trapPa = (s.translate w.1).extractLsb' 12 16 := by
  have hnone : after.filter (fun w => s.inhibited w.1) = [] := List.filter_eq_nil_iff.mpr fun x hx => by simp [hafter x hx]
  have hlast : ((before ++ w :: after).filter fun w => s.inhibited w.1).getLast? = some w := by
    rw [List.filter_append, List.filter_cons_of_pos (p := fun w : Word × Byte => s.inhibited w.1) hw, hnone, List.getLast?_concat]
  rw [State.protection, hlast] at h
  obtain ⟨hsys, hwp, -, -⟩ := h
  exact ⟨hwp, congrArg SysStatus.trapLa hsys, congrArg SysStatus.trapPa hsys⟩

/-- Any inhibited write leaves the trap pending. -/
theorem State.protection.wpPending_of_inhibited (h : s.protection t stack ws) {w : Word × Byte} (hw : w ∈ ws)
    (hi : s.inhibited w.1 = true) : t.wpPending = true := by
  unfold State.protection at h
  split at h
  case h_1 hnone =>
    have hmem : w ∈ ws.filter fun w => s.inhibited w.1 := List.mem_filter.mpr ⟨hw, hi⟩
    rw [List.getLast?_eq_none_iff.mp hnone] at hmem
    exact absurd hmem List.not_mem_nil
  case h_2 => exact h.2.1

/-- The addresses of a fault are not among the latches a write moves. -/
theorem State.protection.faultLatches (h : s.protection t stack ws) :
    t.sys.faultLa = s.sys.faultLa ∧ t.sys.faultPa = s.sys.faultPa := by
  unfold State.protection at h
  split at h
  all_goals
    obtain ⟨hsys, -⟩ := h
    rw [hsys]
    exact ⟨rfl, rfl⟩

/-- A write outside the stack is no Fatal Error (R512). -/
theorem State.protection.noFatalError (h : s.protection t false ws) :
    t.fatalDetect = s.fatalDetect ∧ t.resetReq = s.resetReq := by
  unfold State.protection at h
  split at h
  case h_1 => exact h.2.2
  case h_2 => simpa only [Bool.or_false] using h.2.2

end

/-! ### LDM (HL),SYS (R447) -/

theorem statusBytes_length (inhibits : Word → Bool) (la : Word) (draw offset : Nat) (inhibited : Bool) (vs : List Byte) :
    (statusBytes inhibits la draw offset inhibited vs).length = vs.length := List.length_mapIdx

theorem statusBytes_getElem (inhibits : Word → Bool) (la : Word) (draw offset : Nat) (inhibited : Bool) (vs : List Byte)
    (k : Nat) (h : k < (statusBytes inhibits la draw offset inhibited vs).length) :
    (statusBytes inhibits la draw offset inhibited vs)[k] =
      statusByte draw (offset + k) (inhibited || (List.range k).any fun j => inhibits (la + BitVec.ofNat 16 j))
        (vs[k]'(statusBytes_length inhibits la draw offset inhibited vs ▸ h)) := List.getElem_mapIdx

/-- A byte is as the block has it where no earlier write is inhibited, and at the offsets that UD7 does not open. -/
theorem statusByte_eq {draw k : Nat} {inhibited : Bool} {v : Byte} (h : k = 0 ∨ 5 < k ∨ inhibited = false) :
    statusByte draw k inhibited v = v := by
  refine if_neg ?_
  rintro ⟨hi, h1, h5⟩
  rcases h with h | h | h
  · omega
  · omega
  · exact Bool.false_ne_true (h.symm.trans hi)

/-- `u` is `s` after the sixteen writes of LDM (HL),SYS from the block `vs`. -/
structure State.StoredStatus (s u : State) (vs : List Byte) : Prop where
  kept : ∀ k : Fin 16, s.inhibited (s.hl + BitVec.ofNat 16 k.val) = true →
    u.mem.read (s.phys (s.hl + BitVec.ofNat 16 k.val)) = s.mem.read (s.phys (s.hl + BitVec.ofNat 16 k.val))
  written : ∀ k : Fin 16, s.inhibited (s.hl + BitVec.ofNat 16 k.val) = false →
    (k.val = 0 ∨ 5 < k.val ∨ ∀ j : Fin 16, j < k → s.inhibited (s.hl + BitVec.ofNat 16 j.val) = false) →
    vs[k.val]? = some (u.mem.read (s.phys (s.hl + BitVec.ofNat 16 k.val)))
  others : ∀ a, (∀ k : Fin 16, a ≠ s.phys (s.hl + BitVec.ofNat 16 k.val)) → u.mem.read a = s.mem.read a
  quiet : (∀ k : Fin 16, s.inhibited (s.hl + BitVec.ofNat 16 k.val) = false) → u.sys = s.sys ∧ u.wpPending = s.wpPending
  pending : ∀ k : Fin 16, s.inhibited (s.hl + BitVec.ofNat 16 k.val) = true → u.wpPending = true
  latched : ∀ k : Fin 16, s.inhibited (s.hl + BitVec.ofNat 16 k.val) = true →
    (∀ j : Fin 16, k < j → s.inhibited (s.hl + BitVec.ofNat 16 j.val) = false) →
    u.sys.trapLa = s.hl + BitVec.ofNat 16 k.val ∧
      u.sys.trapPa = (s.translate (s.hl + BitVec.ofNat 16 k.val)).extractLsb' 12 16
  faults : u.sys.faultLa = s.sys.faultLa ∧ u.sys.faultPa = s.sys.faultPa
  noFatalError : u.fatalDetect = s.fatalDetect ∧ u.resetReq = s.resetReq
  onlyStores : s.onlyStores u

theorem State.storeAll_storedStatus (s : State) (draw : Nat) {vs : List Byte} (hlen : vs.length = 16) :
    s.StoredStatus (s.storeAll false (blockWrites s.hl (statusBytes s.inhibited s.hl draw 0 false vs))) vs := by
  generalize hbs : statusBytes s.inhibited s.hl draw 0 false vs = bs
  have hbslen : bs.length = 16 := by rw [← hbs, statusBytes_length, hlen]
  obtain ⟨hstored, hprotection⟩ := s.storeAll_writes false (blockWrites s.hl bs) (blockWrites_pairwise s s.hl (by omega))
  have honly := s.storeAll_onlyStores false (blockWrites s.hl bs)
  generalize s.storeAll false (blockWrites s.hl bs) = u at hstored hprotection honly
  obtain ⟨hwritten, hothers⟩ := hstored
  have hwslen : (blockWrites s.hl bs).length = 16 := by rw [blockWrites_length, hbslen]
  have hget (k : Fin 16) : (blockWrites s.hl bs)[k.val]'(by omega) = (s.hl + BitVec.ofNat 16 k.val, bs[k.val]'(by omega)) :=
    blockWrites_getElem s.hl bs k.val _
  have hmem (k : Fin 16) : (s.hl + BitVec.ofNat 16 k.val, bs[k.val]'(by omega)) ∈ blockWrites s.hl bs :=
    hget k ▸ List.getElem_mem _
  have hindex {w : Word × Byte} (hw : w ∈ blockWrites s.hl bs) : ∃ k : Fin 16, w.1 = s.hl + BitVec.ofNat 16 k.val := by
    obtain ⟨k, hk, rfl⟩ := List.mem_iff_getElem.mp hw
    exact ⟨⟨k, hwslen ▸ hk⟩, congrArg Prod.fst (hget ⟨k, hwslen ▸ hk⟩)⟩
  refine ⟨fun k hk => ?kept, fun k hk hfree => ?written, fun a ha => ?others, fun hall => ?quiet, fun k hk => ?pending,
    fun k hk hlast => ?latched, hprotection.faultLatches, hprotection.noFatalError, honly⟩
  case kept => exact (hwritten _ (hmem k)).trans (if_pos hk)
  case written =>
    have hread := (hwritten _ (hmem k)).trans (if_neg (by simp [hk]))
    have hbyte : bs[k.val]'(by omega) = vs[k.val]'(by omega) := by
      subst hbs
      rw [statusBytes_getElem]
      refine statusByte_eq (hfree.imp (by omega) (Or.imp (by omega) fun hbefore => ?_))
      rw [Bool.false_or, List.any_eq_false]
      exact fun j hj => by simp [hbefore ⟨j, by have := List.mem_range.mp hj; omega⟩ (List.mem_range.mp hj)]
    rw [hread, hbyte, List.getElem?_eq_getElem]
  case others =>
    refine hothers a fun w hw => ?_
    obtain ⟨k, hk⟩ := hindex hw
    rw [hk]
    exact ha k
  case quiet =>
    refine hprotection.of_allStored fun w hw => ?_
    obtain ⟨k, hk⟩ := hindex hw
    rw [hk]
    exact hall k
  case pending => exact hprotection.wpPending_of_inhibited (hmem k) hk
  case latched =>
    have hsplit : blockWrites s.hl bs = (blockWrites s.hl bs).take k.val ++
        (s.hl + BitVec.ofNat 16 k.val, bs[k.val]'(by omega)) :: (blockWrites s.hl bs).drop (k.val + 1) := by
      rw [← hget k, List.getElem_cons_drop, List.take_append_drop]
    have hafter : ∀ x ∈ (blockWrites s.hl bs).drop (k.val + 1), s.inhibited x.1 = false := by
      intro x hx
      obtain ⟨i, hi, rfl⟩ := List.mem_iff_getElem.mp hx
      rw [List.length_drop, hwslen] at hi
      rw [List.getElem_drop, hget ⟨k.val + 1 + i, by omega⟩]
      exact hlast ⟨k.val + 1 + i, by omega⟩ (Fin.mk_lt_mk.mpr (by omega))
    rw [hsplit] at hprotection
    exact (hprotection.of_lastInhibited hk hafter).2

theorem exec_ldmHlSys {s u : State} (hm : s.isMpu = true) (hu : s.storeStatus s.fresh 0 false s.statusBlock = u) :
    exec .ldmHlSys s = .next ({ u with
      sys := u.sys.afterRead (s.blockInhibited && Config.freeBit s.fresh .sysTrapWp)
      noSample := true
      fresh := s.fresh + 1 }.emit .extStatRd) := by
  subst hu
  exact if_pos hm

theorem State.blockInhibited_eq_false {s : State} (h : ∀ k : Fin 16, s.inhibited (s.hl + BitVec.ofNat 16 k.val) = false) :
    s.blockInhibited = false :=
  List.any_eq_false.mpr fun k hk => by
    rw [Bool.not_eq_true]
    exact h ⟨k, List.mem_range.mp hk⟩

/-- The block as numbers, offset 0 first (R560 to R567). -/
theorem State.statusBlock_toNat (s : State) :
    s.statusBlock.map BitVec.toNat = [s.resetStatus.toNat, s.trapStatus.toNat, s.sys.trapLa.toNat % 256,
      s.sys.trapLa.toNat / 256, s.sys.trapPa.toNat % 256, s.sys.trapPa.toNat / 256, s.sys.faultLa.toNat % 256,
      s.sys.faultLa.toNat / 256, s.sys.faultPa.toNat % 256, s.sys.faultPa.toNat / 256, 0, 0, s.sys.drqTo.toNat,
      s.sys.waitTo.toNat, s.rtiStatus.toNat, s.pins.extStat.toNat] := by
  simp only [State.statusBlock, List.map, low_toNat, high_toNat]
  rfl

/-- Settles O47: sixteen byte writes of the block as the state before shows it, and the clearing after them. -/
theorem systemStatusReadClears : Obligations.SystemStatusReadClears := by
  intro s hm y at' reset trap g d dflt lost onDefault rti block
  have hlen : s.statusBlock.length = 16 := rfl
  have hblock : s.statusBlock.map BitVec.toNat = (block s.rtiShort).toList := by
    have hdefault : (s.pins.rtiDefault != 0) = decide (dflt ≠ 0) := bne_zero_eq_decide _
    have hrti : s.rtiStatus.toNat = rti s.rtiShort := by
      rw [State.rtiStatus_toNat, RtiGen.freeRuns_eq, RtiGen.continuous_eq, RtiGen.lost_eq, hdefault]
      rfl
    have hreset : s.resetStatus.toNat = reset := s.resetStatus_toNat
    have htrap : s.trapStatus.toNat = trap := s.trapStatus_toNat
    rw [State.statusBlock_toNat, hreset, htrap, hrti]
    rfl
  obtain ⟨u, hu, hstored⟩ : ∃ u, s.storeStatus s.fresh 0 false s.statusBlock = u.setHl (s.hl + 16) ∧
      s.StoredStatus u s.statusBlock := by
    refine ⟨_, ?_, s.storeAll_storedStatus s.fresh hlen⟩
    rw [State.storeStatus_eq, hlen]
    rfl
  have hexec := exec_ldmHlSys hm hu
  generalize s.statusBlock = vs at hblock hstored
  obtain ⟨hkept, hwritten, hothers, hquiet, hpending, hlatched, hfaults, hfatal, honly⟩ := hstored
  refine ⟨_, s.rtiShort, hexec, fun hd => ?short, high_append_low (s.hl + 16), fun k => ?heldBack, fun k hk hfree => ?written,
    hothers, ?status, fun hall => ?quiet, fun k hk => ⟨hpending k hk, hlatched k hk⟩, ?frame⟩
  case short => exact if_neg fun h0 => hd (congrArg BitVec.toNat h0)
  case heldBack =>
    split
    case isTrue hk => exact hkept k hk
    case isFalse => rfl
  case written =>
    have hread := congrArg (Option.map BitVec.toNat) (hwritten k hk hfree)
    rw [← List.getElem?_map, hblock, List.getElem?_eq_getElem (by simp), Vector.getElem_toList] at hread
    exact (Option.some.inj hread).symm
  case status =>
    obtain ⟨hla, hpa⟩ := hfaults
    change u.sys.afterRead _ = { u.sys.afterRead _ with faultLa := s.sys.faultLa, faultPa := s.sys.faultPa }
    rw [← hla, ← hpa]
    rfl
  case quiet =>
    obtain ⟨hsys, hwp⟩ := hquiet hall
    have hclear : (s.blockInhibited && Config.freeBit s.fresh .sysTrapWp) = false := by
      rw [State.blockInhibited_eq_false hall, Bool.false_and]
    have hla : u.sys.trapLa = s.sys.trapLa := congrArg SysStatus.trapLa hsys
    have hpa : u.sys.trapPa = s.sys.trapPa := congrArg SysStatus.trapPa hsys
    exact ⟨hclear, hla, hpa, hwp⟩
  case frame =>
    obtain ⟨hfd, hrr⟩ := hfatal
    unfold State.onlyStores at honly
    rw [hfd, hrr] at honly
    rw [honly]
    rfl

end Sys2Proof.Machine

/-! The Real-Time Interrupt generator (60_exceptions.md R580, R581): its free-running pulses (O59) and its synchronised mode (O60). What
clocks without an edge bring is a closed form for each mode, by induction on the fuel that bounds the pulses; what an edge leaves is one
equation for each of its cases. The machine around the generator adds only the trace, `nmi_req` and the filter. -/

namespace Sys2Proof.Machine

open Sys2Proof

/-! ### The generator in the machine -/

section
variable {s : State} {n : Nat} {d : Option DmaRequest} {rest : List Tick}

/-- Of a passage of clocks the generator and `nmi_req` see the RTI generator's part alone, and the other timers show no `rti_pulse`. -/
theorem State.afterEvents_rti (hm : s.isMpu = true) (hs : s.script = ⟨[.clocks n], d⟩ :: rest) :
    ∃ w : State, w.rti = s.rti ∧ w.pins = s.pins ∧ w.nmiPending = s.nmiPending ∧
      w.trace.count .rtiPulse = s.trace.count .rtiPulse ∧ s.afterEvents.rti = (w.rtiTime n).rti ∧
      s.afterEvents.nmiPending = (w.rtiTime n).nmiPending ∧
      s.afterEvents.trace.count .rtiPulse = (w.rtiTime n).trace.count .rtiPulse := by
  refine ⟨({ s with script := rest } : State).watchDogTime n, State.watchDogTime_rti _ n, State.watchDogTime_pins _ n,
    State.watchDogTime_nmiPending _ n, (State.watchDogTime_shows _ n).count (by decide), ?_⟩
  rw [State.afterEvents_clocks hm hs]
  exact ⟨State.limiterTime_rti _ n, State.limiterTime_nmiPending _ n, (State.limiterTime_shows _ n).count (by decide)⟩

theorem State.rtiTime_still (h : s.pins.refClock = s.rti.filtered) : s.rtiTime n = s.rtiRun n := if_pos h

/-- Clocks without a change of `ref_clock`: the generator runs, and shows its pulses. -/
theorem State.afterEvents_rtiRun (hm : s.isMpu = true) (hs : s.script = ⟨[.clocks n], d⟩ :: rest)
    (hstill : s.pins.refClock = s.rti.filtered) {k : Nat} {g : RtiGen}
    (hrun : s.rti.run s.pins.rtiDefault s.pins.rtiDivisor.toNat n = (k, g)) :
    s.afterEvents.rti = g ∧ s.afterEvents.trace.count .rtiPulse = s.trace.count .rtiPulse + k ∧
      s.afterEvents.nmiPending = (s.nmiPending || (s.pins.rtiNmi && decide (k ≠ 0))) := by
  obtain ⟨w, hrti, hpins, hnmi, hcount, trti, tnmi, tcount⟩ := State.afterEvents_rti hm hs
  have hw : w.rtiTime n = ({ w with rti := g } : State).rtiPulses k := by
    rw [State.rtiTime_still (by rw [hrti, hpins, hstill]), State.rtiRun, hrti, hpins, hrun]
  rw [trti, tnmi, tcount, hw]
  refine ⟨rfl, ?_, ?_⟩
  · rw [State.rtiPulses_trace, List.count_append, List.count_replicate_self, hcount, Nat.add_comm]
  · rw [State.rtiPulses_nmiPending, hnmi, hpins]
    cases k <;> rfl

end

/-! ### Running freely (R580) -/

/-- The pulses of `n` clocks, the first after `first` and the others after `period` each. -/
def freePulses (first period n : Nat) : Nat :=
  if first = 0 ∨ n < first then 0 else if period = 0 then 1 else 1 + (n - first) / period

/-- Where the counter stands after `n` clocks. -/
def freeCount (first period n : Nat) : Nat :=
  if first = 0 ∨ n < first then first - n else if period = 0 then 0 else period - (n - first) % period

section
variable {g : RtiGen} {dflt : BitVec 24} {divisor fuel n : Nat}

/-- A pulse of a generator that runs freely loads `rti_default`, at least 1024. -/
theorem RtiGen.reload_free (hf : g.follows = false) (dflt : BitVec 24) (divisor : Nat) :
    (g.reload dflt divisor).follows = false ∧ (g.reload dflt divisor).count = rtiPeriod dflt := by
  have h : g.divides divisor = false := by rw [RtiGen.divides, hf, Bool.false_and, Bool.false_and]
  simp [RtiGen.reload, h]

/-- A stopped counter stays stopped. -/
theorem RtiGen.elapse_stopped (h : g.count = 0) :
    (RtiGen.elapse dflt divisor (fuel + 1) n g).1 = 0 ∧ (RtiGen.elapse dflt divisor (fuel + 1) n g).2.count = 0 := by
  simp [RtiGen.elapse, h]

/-- From a full period on there is a pulse at each end of one. -/
theorem RtiGen.elapse_periodic (hf : g.follows = false) (hc : g.count = rtiPeriod dflt) (hp : rtiPeriod dflt ≠ 0)
    (hfuel : n / rtiPeriod dflt < fuel) :
    (RtiGen.elapse dflt divisor fuel n g).1 = n / rtiPeriod dflt ∧
      (RtiGen.elapse dflt divisor fuel n g).2.count = rtiPeriod dflt - n % rtiPeriod dflt := by
  induction fuel generalizing n g with
  | zero => exact absurd hfuel (Nat.not_lt_zero _)
  | succ fuel ih =>
    by_cases hn : n < rtiPeriod dflt
    · rw [RtiGen.elapse_before _ _ _ (hc ▸ hn), Nat.div_eq_of_lt hn, Nat.mod_eq_of_lt hn, hc]
      exact ⟨rfl, rfl⟩
    · have hle : rtiPeriod dflt ≤ n := Nat.le_of_not_lt hn
      have hdiv : n / rtiPeriod dflt = (n - rtiPeriod dflt) / rtiPeriod dflt + 1 :=
        Nat.div_eq_sub_div (Nat.pos_of_ne_zero hp) hle
      obtain ⟨hf', hc'⟩ := RtiGen.reload_free (g := g.age g.count) hf dflt divisor
      obtain ⟨hpulses, hcount⟩ := ih hf' hc' (n := n - rtiPeriod dflt) (by omega)
      rw [RtiGen.elapse_pulse _ _ _ (hc ▸ hp) (hc ▸ hle), hdiv, Nat.mod_eq_sub_mod hle]
      rw [hc] at hpulses hcount ⊢
      exact ⟨congrArg (· + 1) hpulses, hcount⟩

theorem RtiGen.elapse_free (hf : g.follows = false) (hfuel : n / 1024 + 1 < fuel) :
    (RtiGen.elapse dflt divisor fuel n g).1 = freePulses g.count (rtiPeriod dflt) n ∧
      (RtiGen.elapse dflt divisor fuel n g).2.count = freeCount g.count (rtiPeriod dflt) n := by
  obtain ⟨fuel, rfl⟩ : ∃ k, fuel = k + 2 := ⟨fuel - 2, by omega⟩
  unfold freePulses freeCount
  by_cases h0 : g.count = 0
  · simpa [h0] using RtiGen.elapse_stopped (dflt := dflt) (divisor := divisor) (fuel := fuel + 1) (n := n) h0
  by_cases hn : n < g.count
  · rw [RtiGen.elapse_before _ _ _ hn, if_pos (.inr hn), if_pos (.inr hn)]
    exact ⟨rfl, rfl⟩
  have hlater : ¬(g.count = 0 ∨ n < g.count) := not_or.mpr ⟨h0, hn⟩
  obtain ⟨hf', hc'⟩ := RtiGen.reload_free (g := g.age g.count) hf dflt divisor
  rw [RtiGen.elapse_pulse _ _ _ h0 (Nat.le_of_not_lt hn), if_neg hlater, if_neg hlater]
  by_cases hp : rtiPeriod dflt = 0
  · obtain ⟨hpulses, hcount⟩ := RtiGen.elapse_stopped (dflt := dflt) (divisor := divisor) (fuel := fuel) (n := n - g.count)
      (hc'.trans hp)
    rw [if_pos hp, if_pos hp]
    exact ⟨congrArg (· + 1) hpulses, hcount⟩
  · have hlong : 1024 ≤ rtiPeriod dflt := by
      rw [rtiPeriod_of_ne_zero fun h => hp (by rw [h, rtiPeriod_zero])]
      exact Nat.le_max_left _ _
    have hfewer : (n - g.count) / rtiPeriod dflt ≤ n / 1024 :=
      (Nat.div_le_div_left hlong (by decide)).trans (Nat.div_le_div_right (Nat.sub_le _ _))
    obtain ⟨hpulses, hcount⟩ := RtiGen.elapse_periodic (divisor := divisor) (fuel := fuel + 1) (n := n - g.count) hf' hc' hp
      (by omega)
    rw [if_neg hp, if_neg hp, hpulses, Nat.add_comm 1]
    exact ⟨rfl, hcount⟩

/-- Clocks of a generator that runs freely; a stopped one starts from `rti_default`. -/
theorem RtiGen.run_free (hf : g.follows = false) :
    let first := if g.count = 0 then rtiPeriod dflt else g.count
    (g.run dflt divisor n).1 = freePulses first (rtiPeriod dflt) n ∧
      (g.run dflt divisor n).2.count = freeCount first (rtiPeriod dflt) n := by
  have hpass : g.passes divisor = false := by rw [RtiGen.passes, hf, Bool.false_and]
  by_cases h0 : g.count = 0
  · simp only [RtiGen.run, hpass, h0, if_true, Bool.false_eq_true, if_false]
    exact RtiGen.elapse_free (g := { g with count := rtiPeriod dflt, elapsed := 0 }) hf (by omega)
  · simp only [RtiGen.run, hpass, h0, Bool.false_eq_true, if_false]
    exact RtiGen.elapse_free hf (by omega)

end

/-- Settles O59: the closed form of the free-running generator, seen through the machine. -/
theorem freeRunningPulsesAreEvenlySpaced : Obligations.FreeRunningPulsesAreEvenlySpaced := by
  intro s n d rest hm hs hf hstill t period first beyond pulses
  obtain ⟨hpulses, hcount⟩ := RtiGen.run_free (g := s.rti) (dflt := s.pins.rtiDefault) (divisor := s.pins.rtiDivisor.toNat)
    (n := n) hf
  have hran := s.rti.run_ran s.pins.rtiDefault s.pins.rtiDivisor.toNat n
  obtain ⟨trti, ttrace, tnmi⟩ := State.afterEvents_rtiRun hm hs hstill (Prod.mk.eta (p := s.rti.run _ _ n)).symm
  rw [hpulses] at ttrace tnmi
  rw [← trti] at hcount hran
  exact ⟨ttrace, hcount, hran.since, hran.edges, hran.filtered, tnmi⟩

/-! ### What an edge leaves (R581) -/

section
variable {g : RtiGen}

theorem RtiGen.lost_iff : g.lost = true ↔ g.edges = 2 ∧ 2 * g.period < g.since := by
  rw [RtiGen.lost_eq, decide_eq_true_iff]

@[simp] theorem RtiGen.align_filtered : g.align.filtered = g.filtered := by
  unfold RtiGen.align
  split <;> simp

@[simp] theorem RtiGen.align_edges : g.align.edges = g.edges := by
  unfold RtiGen.align
  split <;> simp

@[simp] theorem RtiGen.align_since : g.align.since = g.since := by
  unfold RtiGen.align
  split <;> simp

@[simp] theorem RtiGen.align_period : g.align.period = g.period := by
  unfold RtiGen.align
  split <;> simp

@[simp] theorem RtiGen.align_follows : g.align.follows = g.follows := by
  unfold RtiGen.align
  split <;> simp

@[simp] theorem RtiGen.align_quotient : g.align.quotient = g.quotient := by
  unfold RtiGen.align
  split <;> simp

@[simp] theorem RtiGen.align_remainder : g.align.remainder = g.remainder := by
  unfold RtiGen.align
  split <;> simp

@[simp] theorem RtiGen.align_tooShort : g.align.tooShort = g.tooShort := by
  unfold RtiGen.align
  split <;> simp

/-- The first interval of a new frame of more than one pulse: `q`, and one clock more where the remainder has one to give. -/
theorem RtiGen.nextInterval_newFrame (hl : g.left = 0) (hp : g.pulses ≠ 1) :
    g.nextInterval = { g with
      base := g.quotient
      elapsed := 0
      count := g.fit (if g.remainder = 0 then g.quotient else g.quotient + 1)
      left := g.pulses - 1
      long := g.remainder - 1 } := by
  simp only [RtiGen.nextInterval, hl, if_true, hp, if_false]
  rfl

/-- What the counter takes for that interval, where it fits. -/
theorem RtiGen.firstInterval_eq (hq : g.quotient < 2 ^ 24) (h : g.quotient + 1 < 2 ^ 24 ∨ g.remainder = 0) :
    g.fit (if g.remainder = 0 then g.quotient else g.quotient + 1) = g.quotient + (if g.remainder = 0 then 0 else 1) := by
  split
  case isTrue => exact g.fit_of_lt hq
  case isFalse hr => exact g.fit_of_lt (h.resolve_right hr)

/-- An edge nearer to the last pulse than to the next one: the interval in progress is the first of the new frame. -/
theorem RtiGen.align_toLast (h : g.elapsed ≤ g.count) (hp : g.pulses ≠ 1) :
    g.align = { g with
      base := g.quotient
      count := max 1 (g.fit (if g.remainder = 0 then g.quotient else g.quotient + 1) - g.elapsed)
      left := g.pulses - 1
      long := g.remainder - 1
      adjust := if g.elapsed ≤ 1 then .exact else .longer } := by
  have hnew := RtiGen.nextInterval_newFrame (g := { g with left := 0, adjust := if g.elapsed ≤ 1 then .exact else .longer }) rfl hp
  rw [RtiGen.align, if_pos h]
  dsimp only
  rw [hnew]
  rfl

/-- An edge nearer to the next pulse: the frame in progress ends there. -/
theorem RtiGen.align_toNext (h : ¬g.elapsed ≤ g.count) :
    g.align = { g with left := 0, adjust := if g.count ≤ 1 then .exact else .shorter } := if_neg h

/-- The generator with the results of a measurement that an edge has ended (R581). -/
def RtiGen.measured (g : RtiGen) (divisor draw : Nat) : RtiGen :=
  { g with
    edges := 2
    since := 0
    period := g.since
    draw := draw
    quotient := ({ g with edges := 2, since := 0, period := g.since, draw := draw } : RtiGen).dividedInterval g.since divisor
    remainder := g.since % divisor
    pulses := divisor
    tooShort := decide (g.since / divisor < 1024) }

section
variable {divisor draw : Nat}

theorem RtiGen.measured_quotient (h : g.since / divisor < 2 ^ 24) :
    (g.measured divisor draw).quotient = max 1024 (g.since / divisor) := RtiGen.dividedInterval_eq _ h

theorem RtiGen.measured_quotient_lt : (g.measured divisor draw).quotient < 2 ^ 24 := RtiGen.dividedInterval_lt _ _ _

/-- A first edge starts a measurement. -/
theorem RtiGen.edge_first (h : g.edges = 0 ∨ g.lost = true) :
    g.edge divisor draw = { g with
      edges := 1, since := 0, follows := g.passes divisor, synced := g.synchronised, left := 0, adjust := .exact } := if_pos h

theorem RtiGen.edge_divisorZero (h : ¬(g.edges = 0 ∨ g.lost = true)) (hd : divisor = 0) :
    g.edge divisor draw = { g with edges := 2, since := 0, period := g.since, draw := draw } := by
  rw [RtiGen.edge, if_neg h, if_pos hd]

/-- With divisor 1 the mode is selected and the edges pass through. -/
theorem RtiGen.edge_divisorOne (h : ¬(g.edges = 0 ∨ g.lost = true)) (hd : divisor = 1) :
    g.edge divisor draw = { g.measured divisor draw with follows := true } := by
  rw [RtiGen.edge, if_neg h, if_neg (by omega), if_pos hd]
  rfl

/-- Above 1 the edge selects the mode, and the first interval of a frame begins. -/
theorem RtiGen.edge_selects (h : ¬(g.edges = 0 ∨ g.lost = true)) (hd : 2 ≤ divisor) (hf : g.follows = false) :
    g.edge divisor draw =
      ({ g.measured divisor draw with follows := true, synced := true, left := 0, adjust := .exact } : RtiGen).nextInterval := by
  rw [RtiGen.edge, if_neg h, if_neg (by omega), if_neg (by omega), if_neg (by simp [hf])]
  rfl

/-- In the mode it begins a frame with the new results. -/
theorem RtiGen.edge_aligns (h : ¬(g.edges = 0 ∨ g.lost = true)) (hd : 2 ≤ divisor) (hf : g.follows = true) :
    g.edge divisor draw = (g.measured divisor draw).align := by
  rw [RtiGen.edge, if_neg h, if_neg (by omega), if_neg (by omega), if_pos hf]
  rfl

/-- What every edge that ends a measurement leaves. -/
theorem RtiGen.edge_measures (h : ¬(g.edges = 0 ∨ g.lost = true)) :
    (g.edge divisor draw).edges = 2 ∧ (g.edge divisor draw).since = 0 ∧ (g.edge divisor draw).period = g.since ∧
      (g.edge divisor draw).filtered = g.filtered := by
  rcases Nat.lt_or_ge divisor 2 with hd | hd
  · rcases (by omega : divisor = 0 ∨ divisor = 1) with hd | hd
    · rw [RtiGen.edge_divisorZero h hd]
      exact ⟨rfl, rfl, rfl, rfl⟩
    · rw [RtiGen.edge_divisorOne h hd]
      exact ⟨rfl, rfl, rfl, rfl⟩
  · cases hf : g.follows with
    | false =>
      rw [RtiGen.edge_selects h hd hf, RtiGen.nextInterval_edges, RtiGen.nextInterval_since, RtiGen.nextInterval_period,
        RtiGen.nextInterval_filtered]
      exact ⟨rfl, rfl, rfl, rfl⟩
    | true =>
      rw [RtiGen.edge_aligns h hd hf, RtiGen.align_edges, RtiGen.align_since, RtiGen.align_period, RtiGen.align_filtered]
      exact ⟨rfl, rfl, rfl, rfl⟩

/-- The results that an edge with a divisor leaves, in any mode. -/
theorem RtiGen.edge_results (h : ¬(g.edges = 0 ∨ g.lost = true)) (hd : divisor ≠ 0) :
    (g.edge divisor draw).quotient = (g.measured divisor draw).quotient ∧
      (g.edge divisor draw).remainder = g.since % divisor ∧
      (g.edge divisor draw).tooShort = decide (g.since / divisor < 1024) ∧ (g.edge divisor draw).follows = true := by
  rcases (by omega : divisor = 1 ∨ 2 ≤ divisor) with h1 | h2
  · rw [RtiGen.edge_divisorOne h h1]
    exact ⟨rfl, rfl, rfl, rfl⟩
  · cases hf : g.follows with
    | false =>
      rw [RtiGen.edge_selects h h2 hf, RtiGen.nextInterval_quotient, RtiGen.nextInterval_remainder,
        RtiGen.nextInterval_tooShort, RtiGen.nextInterval_follows]
      exact ⟨rfl, rfl, rfl, rfl⟩
    | true =>
      rw [RtiGen.edge_aligns h h2 hf, RtiGen.align_quotient, RtiGen.align_remainder, RtiGen.align_tooShort,
        RtiGen.align_follows]
      exact ⟨rfl, rfl, rfl, hf⟩

end

end

/-! ### The edge in the machine -/

section
variable (s : State)

/-- The generator as a rising edge that has passed the filter finds it. -/
def State.filteredHigh : RtiGen := { s.rti with filtered := true, held := 0 }

/-- The generator after a recognised rising edge, before an edge that is passed through reloads the counter. -/
def State.recognised : RtiGen := s.filteredHigh.edge s.pins.rtiDivisor.toNat s.fresh

theorem State.recognised_eq : s.recognised = s.filteredHigh.edge s.pins.rtiDivisor.toNat s.fresh := rfl

/-- Whether it is a first edge: there was none yet, or `ref_clock` was lost. -/
theorem State.filteredHigh_first_iff : s.filteredHigh.edges = 0 ∨ s.filteredHigh.lost = true ↔
    s.rti.edges = 0 ∨ (s.rti.edges = 2 ∧ 2 * s.rti.period < s.rti.since) := or_congr_right RtiGen.lost_iff

/-- A level that has passed the filter without being an edge (R581). -/
theorem State.refClockFiltered_low {s : State} (h : s.pins.refClock = false) :
    s.refClockFiltered = { s with rti := { s.rti with filtered := false, held := 0 } } := by
  rw [State.refClockFiltered, h]
  rfl

/-- A rising edge: the generator takes it, and where edges pass through it is a pulse. -/
theorem State.refClockFiltered_rises {s : State} (h : s.pins.refClock = true) :
    s.refClockFiltered.rti = { s.recognised with count := s.refClockFiltered.rti.count } ∧
      (s.recognised.passes s.pins.rtiDivisor.toNat = true → s.refClockFiltered.trace = .rtiPulse :: s.trace) ∧
      (s.recognised.passes s.pins.rtiDivisor.toNat = false →
        s.refClockFiltered.rti = s.recognised ∧ s.refClockFiltered.trace = s.trace) := by
  unfold State.refClockFiltered
  simp only [h, if_true]
  split
  case isTrue hp => exact ⟨rfl, fun _ => rfl, fun hn => absurd (hp.symm.trans hn) (by decide)⟩
  case isFalse hp => exact ⟨rfl, fun hy => absurd hy hp, fun _ => ⟨rfl, rfl⟩⟩

/-- What a rising edge leaves whatever the divisor is: the filter, and the measurement started or ended (R581). -/
theorem State.refClockFiltered_edge {s : State} (h : s.pins.refClock = true) :
    let first := s.rti.edges = 0 ∨ (s.rti.edges = 2 ∧ 2 * s.rti.period < s.rti.since)
    let t := s.refClockFiltered
    t.rti.filtered = true ∧ t.rti.held = 0 ∧ t.rti.since = 0 ∧ (first → t.rti.edges = 1) ∧
      (¬first → t.rti.edges = 2 ∧ t.rti.period = s.rti.since) := by
  obtain ⟨hrti, -, -⟩ := State.refClockFiltered_rises h
  intro first t
  have hheld : s.recognised.held = 0 := RtiGen.edge_held _ _ _
  have hfirst := s.filteredHigh_first_iff
  rw [show t.rti = _ from hrti]
  by_cases hf : first
  · have he : s.recognised = _ := RtiGen.edge_first (hfirst.mpr hf)
    exact ⟨congrArg RtiGen.filtered he, hheld, congrArg RtiGen.since he, fun _ => congrArg RtiGen.edges he,
      fun hn => absurd hf hn⟩
  · obtain ⟨hedges, hsince, hperiod, hfiltered⟩ := RtiGen.edge_measures (divisor := s.pins.rtiDivisor.toNat) (draw := s.fresh)
      (mt hfirst.mp hf)
    exact ⟨hfiltered, hheld, hsince, fun hy => absurd hy hf, fun _ => ⟨hedges, hperiod⟩⟩

end

end Sys2Proof.Machine

namespace Sys2Proof.Machine

open Sys2Proof

/-! ### The pulses of a frame (R581) -/

/-- The clocks of the first `k` intervals of a frame: `q` each, and one more in the first `r`. -/
def frameTime (q r k : Nat) : Nat := k * q + min k r

section
variable {q r j k d : Nat}

theorem frameTime_succ : frameTime q r (j + 1) = frameTime q r j + (q + if j < r then 1 else 0) := by
  rw [frameTime, frameTime, Nat.succ_mul]
  split <;> omega

theorem frameTime_mono (h : j ≤ k) : frameTime q r j ≤ frameTime q r k :=
  Nat.add_le_add (Nat.mul_le_mul_right q h) (by omega)

/-- A frame ends with its period. -/
theorem frameTime_end (h : r ≤ d) : frameTime q r d = q * d + r := by
  rw [frameTime, Nat.min_eq_right h, Nat.mul_comm]

/-- Of the pulses of a frame from the `j`-th on, those that have come after `m` clocks. -/
def framePulses (d q r j m : Nat) : Nat :=
  ((List.range' j (d - j)).filter (fun k => decide (frameTime q r (k + 1) ≤ m))).length

variable {m : Nat}

theorem framePulses_end : framePulses d q r d m = 0 := by rw [framePulses, Nat.sub_self]; rfl

theorem framePulses_before (h : m < frameTime q r (j + 1)) : framePulses d q r j m = 0 := by
  rw [framePulses, List.length_eq_zero_iff, List.filter_eq_nil_iff]
  intro k hk
  have hmono : frameTime q r (j + 1) ≤ frameTime q r (k + 1) := frameTime_mono (Nat.succ_le_succ (List.mem_range'_1.mp hk).1)
  simpa using Nat.lt_of_lt_of_le h hmono

theorem framePulses_succ (hj : j < d) (h : frameTime q r (j + 1) ≤ m) :
    framePulses d q r j m = framePulses d q r (j + 1) m + 1 := by
  have hlength : d - j = (d - (j + 1)) + 1 := by omega
  simp only [framePulses, hlength, List.range'_succ, List.filter_cons, decide_eq_true h, if_true, List.length_cons]

/-- The generator at the start of the `j`-th interval of a frame that an edge began. -/
structure RtiGen.InFrame (g : RtiGen) (d q r j : Nat) : Prop where
  follows : g.follows = true
  edges : g.edges = 2
  period : g.period = q * d + r
  since : g.since = frameTime q r j
  count : g.count = q + if j < r then 1 else 0
  left : g.left = d - 1 - j
  long : g.long = r - 1 - j
  base : g.base = q
  adjust : g.adjust = .exact

variable {g : RtiGen} {dflt : BitVec 24}

theorem RtiGen.InFrame.clocks (hg : g.InFrame d q r j) : frameTime q r j + g.count = frameTime q r (j + 1) := by
  rw [frameTime_succ, hg.count]

/-- Within a frame the counter takes the next interval of it, without the clock of the phase-locked loop. -/
theorem RtiGen.nextInterval_within (hl : g.left ≠ 0) (ha : g.adjust = .exact) :
    g.nextInterval = { g with
      elapsed := 0
      count := g.fit (if g.long = 0 then g.base else g.base + 1)
      left := g.left - 1
      long := g.long - 1 } := by
  simp only [RtiGen.nextInterval, hl, if_false, ha, PhaseAdjust.apply, ite_self]

/-- No clocks, no pulse. -/
theorem RtiGen.elapse_none {fuel : Nat} : (RtiGen.elapse dflt d fuel 0 g).1 = 0 := by
  cases fuel with
  | zero => rfl
  | succ fuel => rw [RtiGen.elapse, if_pos (Nat.eq_zero_or_pos _)]

/-- The pulse that ends an interval other than the last begins the next one. -/
theorem RtiGen.InFrame.reload (hg : g.InFrame d q r j) (hd : 2 ≤ d) (hr : r < d)
    (hq : q + 1 < 2 ^ 24 ∨ (r = 0 ∧ q < 2 ^ 24)) (hj : j + 1 < d) :
    ((g.age g.count).reload dflt d).InFrame d q r (j + 1) := by
  have hsince : (g.age g.count).since = frameTime q r (j + 1) := by rw [RtiGen.age_since, hg.since, hg.clocks]
  have hin : (g.age g.count).since ≤ (g.age g.count).period := by
    rw [hsince, RtiGen.age_period, hg.period, ← frameTime_end (Nat.le_of_lt hr)]
    exact frameTime_mono (Nat.le_of_lt hj)
  have hlost : (g.age g.count).lost = false := by
    rw [Bool.eq_false_iff, ne_eq, RtiGen.lost_iff]
    omega
  have hdivides : (g.age g.count).divides d = true := by
    rw [RtiGen.divides, hlost, RtiGen.age_follows, hg.follows, decide_eq_true hd]
    rfl
  have hleft : (g.age g.count).left ≠ 0 := by rw [RtiGen.age_left, hg.left]; omega
  have hcount : (g.age g.count).fit (if g.long = 0 then g.base else g.base + 1) = q + if j + 1 < r then 1 else 0 := by
    rw [hg.long, hg.base]
    split
    case isTrue hfew => rw [RtiGen.fit_of_lt _ (by omega), if_neg (by omega), Nat.add_zero]
    case isFalse hmore => rw [RtiGen.fit_of_lt _ (by omega), if_pos (by omega)]
  have hnextLeft : (g.age g.count).left - 1 = d - 1 - (j + 1) := by rw [RtiGen.age_left, hg.left]; omega
  have hnextLong : (g.age g.count).long - 1 = r - 1 - (j + 1) := by rw [RtiGen.age_long, hg.long]; omega
  rw [RtiGen.reload, if_pos hdivides, RtiGen.nextInterval_within hleft hg.adjust]
  exact ⟨hg.follows, hg.edges, hg.period, hsince, hcount, hnextLeft, hnextLong, hg.base, hg.adjust⟩

/-- In a frame the pulses come at the ends of its intervals, whatever part of it passes. -/
theorem RtiGen.InFrame.elapse {fuel n : Nat} (hg : g.InFrame d q r j) (hd : 2 ≤ d) (hr : r < d) (hmin : 1024 ≤ q)
    (hq : q + 1 < 2 ^ 24 ∨ (r = 0 ∧ q < 2 ^ 24)) (hj : j < d) (hn : frameTime q r j + n ≤ q * d + r) (hfuel : n / 1024 < fuel) :
    (RtiGen.elapse dflt d fuel n g).1 = framePulses d q r j (frameTime q r j + n) := by
  induction fuel generalizing j n g with
  | zero => exact absurd hfuel (Nat.not_lt_zero _)
  | succ fuel ih =>
    have hlong : 1024 ≤ g.count := by rw [hg.count]; omega
    have hclocks := hg.clocks
    rcases Nat.lt_or_ge n g.count with hbefore | hpulse
    · rw [RtiGen.elapse_before _ _ _ hbefore, framePulses_before (by omega)]
    · rw [RtiGen.elapse_pulse _ _ _ (by omega) hpulse, framePulses_succ hj (by omega)]
      have hgo : frameTime q r j + n = frameTime q r (j + 1) + (n - g.count) := by omega
      rcases Nat.lt_or_ge (j + 1) d with hnext | hlast
      · rw [ih (hg.reload hd hr hq hnext) hnext (hgo ▸ hn) (by omega), hgo]
      · obtain rfl : d = j + 1 := by omega
        have hend := frameTime_end (q := q) (Nat.le_of_lt hr)
        rw [framePulses_end, show n - g.count = 0 by omega, RtiGen.elapse_none]

end

/-! ### The filter -/

section
variable {s : State} {n : Nat}

/-- A level that has not passed the filter yet. -/
theorem State.rtiTime_waits (hlevel : s.pins.refClock ≠ s.rti.filtered) (h : s.rti.held + n < 11) :
    (s.rtiTime n).rti.filtered = s.rti.filtered ∧ (s.rtiTime n).rti.held = s.rti.held + n ∧
      (s.rtiTime n).rti.edges = s.rti.edges ∧ (s.rtiTime n).rti.since = s.rti.since + n := by
  have hran := RtiGen.run_ran { s.rti with held := s.rti.held + n } s.pins.rtiDefault s.pins.rtiDivisor.toNat n
  rw [State.rtiTime, if_neg hlevel, if_pos (show _ < filterClocks from h)]
  exact ⟨hran.filtered, hran.held, hran.edges, hran.since⟩

/-- A level that passes the filter on the way: the clocks before it, what it is, and the clocks after it. -/
theorem State.rtiTime_passes (hlevel : s.pins.refClock ≠ s.rti.filtered) (h : 11 ≤ s.rti.held + n) :
    s.rtiTime n = ((s.rtiRun (11 - s.rti.held)).refClockFiltered).rtiRun (n - (11 - s.rti.held)) := by
  rw [State.rtiTime, if_neg hlevel, if_neg (show ¬_ < filterClocks from Nat.not_lt.mpr h)]
  rfl

theorem State.rtiRun_ran : s.rti.Ran (s.rtiRun n).rti n := s.rti.run_ran _ _ _

theorem State.rtiTime_passesLow (hlevel : s.pins.refClock ≠ s.rti.filtered) (h : 11 ≤ s.rti.held + n)
    (hlow : s.pins.refClock = false) :
    (s.rtiTime n).rti.filtered = false ∧ (s.rtiTime n).rti.held = 0 ∧ (s.rtiTime n).rti.since = s.rti.since + n ∧
      (s.rtiTime n).rti.edges = s.rti.edges ∧ (s.rtiTime n).rti.period = s.rti.period := by
  have hbefore := State.rtiRun_ran (s := s) (n := 11 - s.rti.held)
  have hafter := State.rtiRun_ran (s := (s.rtiRun (11 - s.rti.held)).refClockFiltered) (n := n - (11 - s.rti.held))
  rw [State.refClockFiltered_low (s := s.rtiRun (11 - s.rti.held)) hlow] at hafter
  rw [State.rtiTime_passes hlevel h, State.refClockFiltered_low (s := s.rtiRun (11 - s.rti.held)) hlow]
  refine ⟨hafter.filtered, hafter.held, ?_, hafter.edges.trans hbefore.edges, hafter.period.trans hbefore.period⟩
  have hsince := hafter.since
  have hsince' := hbefore.since
  dsimp only at hsince hsince' ⊢
  omega

theorem State.rtiTime_passesHigh (hlevel : s.pins.refClock ≠ s.rti.filtered) (h : 11 ≤ s.rti.held + n)
    (hhigh : s.pins.refClock = true) :
    let wait := 11 - s.rti.held
    let first := s.rti.edges = 0 ∨ (s.rti.edges = 2 ∧ 2 * s.rti.period < s.rti.since + wait)
    let t := s.rtiTime n
    t.rti.filtered = true ∧ t.rti.held = 0 ∧ t.rti.since = n - wait ∧ (first → t.rti.edges = 1) ∧
      (¬first → t.rti.edges = 2 ∧ t.rti.period = s.rti.since + wait) := by
  intro wait first t
  have hbefore := State.rtiRun_ran (s := s) (n := wait)
  have hafter := State.rtiRun_ran (s := (s.rtiRun wait).refClockFiltered) (n := n - wait)
  obtain ⟨hfiltered, hheld, hsince, hfirst, hnext⟩ := State.refClockFiltered_edge (s := s.rtiRun wait) hhigh
  rw [hbefore.edges, hbefore.period, hbefore.since] at hfirst hnext
  rw [show t = _ from State.rtiTime_passes hlevel h]
  refine ⟨hafter.filtered.trans hfiltered, hafter.held.trans hheld, ?_, fun hf => hafter.edges.trans (hfirst hf),
    fun hn => ⟨hafter.edges.trans (hnext hn).1, hafter.period.trans (hnext hn).2⟩⟩
  rw [hafter.since, hsince, Nat.zero_add]

end

/-! ### The results of a measurement -/

section
variable {s : State}

variable (hhigh : s.pins.refClock = true)
  (hnext : ¬(s.rti.edges = 0 ∨ (s.rti.edges = 2 ∧ 2 * s.rti.period < s.rti.since)))
include hhigh hnext

theorem State.refClockFiltered_results (hd : s.pins.rtiDivisor.toNat ≠ 0)
    (hfit : s.rti.since / s.pins.rtiDivisor.toNat < 2 ^ 24) :
    let t := s.refClockFiltered
    t.rti.quotient = max 1024 (s.rti.since / s.pins.rtiDivisor.toNat) ∧
      t.rti.remainder = s.rti.since % s.pins.rtiDivisor.toNat ∧
      t.rti.tooShort = decide (s.rti.since / s.pins.rtiDivisor.toNat < 1024) ∧ t.rti.follows = true := by
  obtain ⟨hrti, -, -⟩ := State.refClockFiltered_rises hhigh
  obtain ⟨hquotient, hremainder, hshort, hfollows⟩ :=
    RtiGen.edge_results (g := s.filteredHigh) (draw := s.fresh) (mt s.filteredHigh_first_iff.mp hnext) hd
  intro t
  rw [show t.rti = _ from hrti]
  exact ⟨hquotient.trans (RtiGen.measured_quotient (g := s.filteredHigh) hfit), hremainder, hshort, hfollows⟩

/-- With divisor 1 the edge is itself a pulse. -/
theorem State.refClockFiltered_pulse (hd : s.pins.rtiDivisor.toNat = 1) :
    s.refClockFiltered.trace = .rtiPulse :: s.trace := by
  obtain ⟨-, hpass, -⟩ := State.refClockFiltered_rises hhigh
  refine hpass ?_
  rw [State.recognised_eq, RtiGen.edge_divisorOne (mt s.filteredHigh_first_iff.mp hnext) hd, hd]
  rfl

omit hnext in
/-- Above 1 it is none. -/
theorem State.refClockFiltered_divider (hd : 2 ≤ s.pins.rtiDivisor.toNat) :
    s.refClockFiltered.rti = s.recognised ∧ s.refClockFiltered.trace = s.trace := by
  obtain ⟨-, -, hpass⟩ := State.refClockFiltered_rises hhigh
  have hnotOne : (s.pins.rtiDivisor.toNat == 1) = false := beq_false_of_ne (by omega)
  exact hpass (by rw [RtiGen.passes, hnotOne, Bool.and_false])

/-- The edge that selects the mode begins the first interval. -/
theorem State.refClockFiltered_selects (hd : 2 ≤ s.pins.rtiDivisor.toNat) (hfree : s.rti.follows = false) :
    let t := s.refClockFiltered
    t.rti.synced = true ∧
      (t.rti.quotient + 1 < 2 ^ 24 ∨ t.rti.remainder = 0 →
        t.rti.count = t.rti.quotient + (if t.rti.remainder = 0 then 0 else 1)) ∧
      t.rti.left = s.pins.rtiDivisor.toNat - 1 ∧ t.rti.long = t.rti.remainder - 1 ∧ t.rti.base = t.rti.quotient ∧
      t.rti.adjust = .exact := by
  obtain ⟨hrti, -⟩ := State.refClockFiltered_divider hhigh hd
  intro t
  rw [show t.rti = _ from hrti, State.recognised_eq, RtiGen.edge_selects (mt s.filteredHigh_first_iff.mp hnext) hd hfree,
    RtiGen.nextInterval_newFrame rfl (show s.pins.rtiDivisor.toNat ≠ 1 by omega)]
  exact ⟨rfl, RtiGen.firstInterval_eq RtiGen.measured_quotient_lt, rfl, rfl, rfl, rfl⟩

/-- An edge in the mode begins a frame at the last pulse or at the next one, whichever is nearer. -/
theorem State.refClockFiltered_aligns (hd : 2 ≤ s.pins.rtiDivisor.toNat) (hmode : s.rti.follows = true) :
    let t := s.refClockFiltered
    if s.rti.elapsed ≤ s.rti.count then
      (t.rti.quotient + 1 < 2 ^ 24 ∨ t.rti.remainder = 0 →
        t.rti.count = max 1 (t.rti.quotient + (if t.rti.remainder = 0 then 0 else 1) - s.rti.elapsed)) ∧
      t.rti.left = s.pins.rtiDivisor.toNat - 1 ∧ t.rti.long = t.rti.remainder - 1 ∧ t.rti.base = t.rti.quotient ∧
      t.rti.adjust = (if s.rti.elapsed ≤ 1 then .exact else .longer)
    else
      t.rti.count = s.rti.count ∧ t.rti.left = 0 ∧ t.rti.pulses = s.pins.rtiDivisor.toNat ∧
        t.rti.adjust = (if s.rti.count ≤ 1 then .exact else .shorter) := by
  obtain ⟨hrti, -⟩ := State.refClockFiltered_divider hhigh hd
  intro t
  rw [show t.rti = _ from hrti, State.recognised_eq, RtiGen.edge_aligns (mt s.filteredHigh_first_iff.mp hnext) hd hmode]
  split
  case isTrue hlast =>
    have hnotOne : (s.filteredHigh.measured s.pins.rtiDivisor.toNat s.fresh).pulses ≠ 1 :=
      show s.pins.rtiDivisor.toNat ≠ 1 by omega
    rw [RtiGen.align_toLast (g := s.filteredHigh.measured _ _) hlast hnotOne]
    refine ⟨fun h => ?_, rfl, rfl, rfl, rfl⟩
    exact congrArg (fun clocks => max 1 (clocks - s.rti.elapsed)) (RtiGen.firstInterval_eq RtiGen.measured_quotient_lt h)
  case isFalse hlast =>
    rw [RtiGen.align_toNext (g := s.filteredHigh.measured _ _) hlast]
    exact ⟨rfl, rfl, rfl, rfl⟩

end

/-! ### The three parts of the claim -/

section
variable {s : State} {n : Nat} {d : Option DmaRequest} {rest : List Tick}

/-- Clocks with a new level of `ref_clock`. -/
theorem State.afterEvents_newLevel (hm : s.isMpu = true) (hs : s.script = ⟨[.clocks n], d⟩ :: rest)
    (hlevel : s.pins.refClock ≠ s.rti.filtered) :
    let t := s.afterEvents
    let wait := 11 - s.rti.held
    let first := s.rti.edges = 0 ∨ (s.rti.edges = 2 ∧ 2 * s.rti.period < s.rti.since + wait)
    (s.rti.held + n < 11 →
      t.rti.filtered = s.rti.filtered ∧ t.rti.held = s.rti.held + n ∧ t.rti.edges = s.rti.edges ∧ t.rti.since = s.rti.since + n) ∧
      (11 ≤ s.rti.held + n → t.rti.filtered = s.pins.refClock ∧ t.rti.held = 0 ∧
        if s.pins.refClock = true then
          t.rti.since = n - wait ∧ (first → t.rti.edges = 1) ∧ (¬first → t.rti.edges = 2 ∧ t.rti.period = s.rti.since + wait)
        else t.rti.since = s.rti.since + n ∧ t.rti.edges = s.rti.edges ∧ t.rti.period = s.rti.period) := by
  obtain ⟨w, hrti, hpins, -, -, trti, -⟩ := State.afterEvents_rti hm hs
  intro t wait first
  rw [show t.rti = _ from trti]
  rw [← hpins, ← hrti] at hlevel
  refine ⟨fun h => ?_, fun h => ?_⟩
  · simpa only [hrti] using State.rtiTime_waits hlevel (by rwa [hrti])
  · cases hclock : s.pins.refClock with
    | false =>
      rw [if_neg Bool.false_ne_true]
      simpa only [hrti] using State.rtiTime_passesLow hlevel (by rwa [hrti]) (by rwa [hpins])
    | true =>
      rw [if_pos rfl]
      simpa only [hrti] using State.rtiTime_passesHigh hlevel (by rwa [hrti]) (by rwa [hpins])

/-- Clocks in a frame that an edge has begun. -/
theorem State.afterEvents_frame (hm : s.isMpu = true) (hs : s.script = ⟨[.clocks n], d⟩ :: rest)
    (hstill : s.pins.refClock = s.rti.filtered) {q r : Nat} (hframe : s.rti.InFrame s.pins.rtiDivisor.toNat q r 0)
    (hd : 2 ≤ s.pins.rtiDivisor.toNat) (hr : r < s.pins.rtiDivisor.toNat) (hmin : 1024 ≤ q)
    (hq : q + 1 < 2 ^ 24 ∨ (r = 0 ∧ q < 2 ^ 24)) (hn : n ≤ q * s.pins.rtiDivisor.toNat + r) :
    s.afterEvents.trace.count .rtiPulse = s.trace.count .rtiPulse + framePulses s.pins.rtiDivisor.toNat q r 0 n := by
  have hstart : frameTime q r 0 = 0 := by rw [frameTime, Nat.zero_mul, Nat.zero_min]
  have hnotOne : (s.pins.rtiDivisor.toNat == 1) = false := beq_false_of_ne (by omega)
  have hrun : s.rti.run s.pins.rtiDefault s.pins.rtiDivisor.toNat n =
      RtiGen.elapse s.pins.rtiDefault s.pins.rtiDivisor.toNat (n / 1024 + 2) n s.rti := by
    have hcount : s.rti.count ≠ 0 := by rw [hframe.count]; omega
    simp only [RtiGen.run, RtiGen.passes, hnotOne, Bool.and_false, Bool.false_eq_true, hcount, if_false]
  obtain ⟨-, tcount, -⟩ := State.afterEvents_rtiRun hm hs hstill (hrun.trans (Prod.mk.eta (p := RtiGen.elapse _ _ _ _ _)).symm)
  rw [tcount, hframe.elapse hd hr hmin hq (by omega) (by omega) (by omega), hstart, Nat.zero_add]

end

/-- Settles O60: the filter, what the edge that has passed it leaves, and the pulses of a frame, one lemma for each. -/
theorem synchronisedPulsesDivideThePeriod : Obligations.SynchronisedPulsesDivideThePeriod := by
  intro s hm d g firstEdge
  refine ⟨fun n rest tick hs hlevel => State.afterEvents_newLevel hm hs hlevel, fun hhigh => ?_, ?_⟩
  · obtain ⟨hfiltered, hheld, hsince, hfirst, hmeasured⟩ := State.refClockFiltered_edge hhigh
    refine ⟨hfiltered, hheld, hsince, hfirst, fun hnext => ⟨(hmeasured hnext).1, (hmeasured hnext).2, fun hd hfit => ?_⟩⟩
    obtain ⟨hquotient, hremainder, hshort, hfollows⟩ := State.refClockFiltered_results hhigh hnext hd hfit
    exact ⟨hquotient, hremainder, hshort, hfollows, State.refClockFiltered_pulse hhigh hnext,
      fun h2 => (State.refClockFiltered_divider hhigh h2).2, State.refClockFiltered_selects hhigh hnext,
      State.refClockFiltered_aligns hhigh hnext⟩
  · intro n q r rest tick hs hstill hfollows h2 hedges hsince hmin hq hr hperiod hn hcount hleft hlong hbase hadjust _ _ _
    have hframe : g.InFrame d q r 0 := by
      refine ⟨hfollows, hedges, hperiod, ?_, ?_, hleft, hlong, hbase, hadjust⟩
      · rw [hsince, frameTime, Nat.zero_mul, Nat.zero_min]
      · rw [hcount]
        split <;> split <;> omega
    have hpulses := State.afterEvents_frame hm hs hstill hframe h2 hr hmin hq (hperiod ▸ hn)
    rwa [framePulses, Nat.sub_zero, ← List.range_eq_range'] at hpulses

end Sys2Proof.Machine
